-- ==== Sys2Proof/Word.lean ====
section
/-! DEFINITION. The word types of the block: every value is an unsigned bit field (R22). -/

namespace Sys2Proof

/-- `u8` of R22: a data byte, a register of an expander, a bit mask of one bank. -/
abbrev Byte := BitVec 8

/-- `u16` of R22: an address of the Z80 memory space (R80). -/
abbrev Addr := BitVec 16

/-- A command word (R110) or a micro-op word (R122). -/
abbrev Word := BitVec 32

/-- A response word (R118). -/
abbrev Reply := BitVec 40

end Sys2Proof
end

