-- ==== Sys2Proof/Config.lean ====
section
/-! DEFINITION. The types of the implementation parameters (R8 to R20), of the signal registry (R130), and of one
environment draw (R41, R45, R46, R52, R175); and the model's uninterpreted constants: the parameters that R9, R8, R16 and
R18 leave OPEN, and the draws beyond the script a state carries. Default values stand in Machine/Registry.lean. -/

namespace Sys2Proof

/-! ## Places -/

/-- `P_NUM_CHIPS`: 2 or 3 (R8). -/
inductive ChipCount where
  | two
  | three
  deriving DecidableEq, Repr, Inhabited

/-- A chip id `0 .. P_NUM_CHIPS-1` (R8). `chip2` exists only when there are three chips. -/
inductive ChipId where
  | chip0
  | chip1
  | chip2
  deriving DecidableEq, Repr, Inhabited

/-- A bank id (R8). -/
inductive Bank where
  | portA
  | portB
  deriving DecidableEq, Repr, Inhabited

/-- One 8-bit port of an expander chip (glossary of 00_scope.md). -/
structure BankId where
  chip : ChipId
  bank : Bank
  deriving DecidableEq, Repr, Inhabited

/-- The discrete lines `l` of R16 and R124. -/
inductive Line where
  | busrq
  | wait
  | reset
  | int
  | nmi
  deriving DecidableEq, Repr, Inhabited

/-- The signal names: the closed enumeration of the default registry's names that R130 admits, and `other` for the
names of another registry. -/
inductive SignalName where
  | addrLo
  | addrHi
  | data
  | ctrl
  | busak
  | rd
  | wr
  | ioreq
  | mreq
  | m1
  | ctrlSpare6
  | ctrlSpare7
  | spare2A
  | spare2B
  | busrq
  | wait
  | reset
  | int
  | nmi
  | other (n : Nat)
  deriving DecidableEq, Repr, Inhabited

/-- Where a signal sits: bits of one bank, or a discrete pin (R130). -/
inductive Place where
  | bits (bank : BankId) (mask : Byte)
  | gpio
  deriving DecidableEq, Repr, Inhabited

/-- A signal record of the registry (R130). -/
structure SignalRecord where
  name : SignalName
  place : Place
  deriving DecidableEq, Repr, Inhabited

/-! ## Families indexed by line and by bank -/

/-- One value per discrete line. -/
structure PerLine (α : Type) where
  busrq : α
  wait : α
  reset : α
  int : α
  nmi : α
  deriving DecidableEq, Repr, Inhabited

/-- One value per bank of the three possible chips. -/
structure PerBank (α : Type) where
  a0 : α
  b0 : α
  a1 : α
  b1 : α
  a2 : α
  b2 : α
  deriving DecidableEq, Repr, Inhabited

/-! ## Expander registers (R37) -/

/-- The registers of one bank: the four of R37, and the interrupt-enable register of R334 and R361, which the block
never writes. -/
structure BankRegs where
  iodir : Byte
  ipol : Byte
  gppu : Byte
  olat : Byte
  gpinten : Byte
  deriving DecidableEq, Repr, Inhabited

/-- The registers of one expander chip (R37). -/
structure ChipRegs where
  iocon : Byte
  bankA : BankRegs
  bankB : BankRegs
  deriving DecidableEq, Repr, Inhabited

/-! ## Parameters (R8 to R20) -/

/-- `P_REG` (R12, R127): the register addresses of an expander chip. -/
structure RegMap where
  iodirA : Byte
  iodirB : Byte
  ipolA : Byte
  ipolB : Byte
  iocon : Byte
  gppuA : Byte
  gppuB : Byte
  gpioA : Byte
  gpioB : Byte
  olatA : Byte
  olatB : Byte
  deriving DecidableEq, Repr, Inhabited

/-- `P_CTRL_BYTE` (R13): the control byte of each chip, for a write and for a read. -/
structure CtrlBytes where
  write0 : Byte
  read0 : Byte
  write1 : Byte
  read1 : Byte
  write2 : Byte
  read2 : Byte
  deriving DecidableEq, Repr, Inhabited

/-- `P_WRITE_ORDER` (R15). -/
inductive WriteOrder where
  | latchFirst
  | dirFirst
  deriving DecidableEq, Repr, Inhabited

/-- `P_ORACLE` (R20). -/
inductive Oracle where
  | free
  | simMem
  deriving DecidableEq, Repr, Inhabited

/-- The parameters of the model (R8 to R20). They are arguments of the step relation (R53), and never change: the one
argument the step has is the state, so the state carries them. DESIGN CHOICE (log 2). -/
structure Params where
  /-- `P_NUM_CHIPS` (R8). -/
  numChips : ChipCount
  /-- `P_GRAB_POLL_LIMIT` (R9). -/
  grabPollLimit : Nat
  /-- `P_SIGNAL_MAP` (R10). -/
  signalMap : List SignalRecord
  /-- `P_POLARITY` (R11): the signals whose Active level is 1; every other signal is active low. -/
  activeHigh : List SignalName
  /-- `P_REG` (R12). -/
  regs : RegMap
  /-- `P_CTRL_BYTE` (R13). -/
  ctrlBytes : CtrlBytes
  /-- `P_DIR_INPUT_BIT` (R14). -/
  dirInputBit : Bool
  /-- `P_WRITE_ORDER` (R15). -/
  writeOrder : WriteOrder
  /-- The host pins chosen for the lines; `gpioPin` reads the five distinct identifiers `P_GPIO_PIN` from it (R16,
  log 28). -/
  gpioPins : PerLine Nat
  /-- `P_SS_WAIT_RELEASE` (R17). -/
  ssWaitRelease : Bool
  /-- `P_PULSE_MIN` (R18); no rule depends on it. -/
  pulseMin : Nat
  /-- `P_EXP_POR` (R19). -/
  expPor : ChipRegs
  /-- `P_ORACLE` (R20). -/
  oracle : Oracle
  deriving DecidableEq, Repr, Inhabited

/-! ## One environment draw -/

/-- How the Register Transport answers one transfer: it completes; it fails, and a failed write leaves `v` in its
register (R175); or it never completes (R327). -/
inductive XferDraw where
  | ok
  | err (v : Byte)
  | hang
  deriving DecidableEq, Repr, Inhabited

/-- What the parties other than the block and the memory do on the eight lines of one bank: the lines they drive (of
those R40 lets them drive), with which levels, and the level an undetermined line takes (R42). -/
structure BankDraw where
  drive : Byte
  level : Byte
  float : Byte
  deriving DecidableEq, Repr, Inhabited

/-- Everything the environment decides around one port action (R6, R52): every field is a free value of the model
(93_implementation_defined.md). -/
structure Draw where
  /-- The transport's answer, if the port action is a transfer. -/
  xfer : XferDraw
  /-- Whether the CPU takes the change of `granted` that R52 allows it at this moment. -/
  cpuMove : Bool
  /-- Whether the CPU has performed its next instruction fetch (R52). -/
  cpuFetch : Bool
  /-- Whether the bus cycle in progress has ended, if the block does not hold its strobes; a cycle seen after that is
  another one (R45, R52). -/
  cycleEnds : Bool
  /-- What the CPU's own memory cycles stored, while it was not granted (R45). -/
  cpuStores : List (Addr × Byte)
  /-- The lines of the banks before the port action, when the CPU may have moved (R52, R371). -/
  between : PerBank BankDraw
  /-- The lines of the banks after the port action. -/
  banks : PerBank BankDraw
  /-- The level of an undriven discrete line whose pull-up is off (R362). -/
  lineFloat : PerLine Bool
  /-- The byte a memory (under `Free`) or an I/O device answers (R45, R46). -/
  busByte : Byte
  /-- The byte a register read returns when several chips answer it (log 15). -/
  spiByte : Byte
  deriving DecidableEq, Repr, Inhabited

/-! ## Uninterpreted constants -/

/-- `P_NUM_CHIPS` of the machine at hand: OPEN (R8). -/
opaque Config.numChips : ChipCount

/-- `P_GRAB_POLL_LIMIT` of the machine at hand: OPEN (R9). -/
opaque Config.grabPollLimit : Nat

/-- The host pins chosen for the lines of the machine at hand: OPEN (R16). -/
opaque Config.gpioPins : PerLine Nat

/-- `P_PULSE_MIN` of the machine at hand: OPEN (R18). -/
opaque Config.pulseMin : Nat

/-- The environment's draws beyond the script of a state: free values (log 4). -/
opaque Config.freeDraw : Nat → Draw

end Sys2Proof
end

