-- ==== Sys2Proof/Syntax.lean ====
section
/-! DEFINITION. The instructions: the 13 commands of the command port (R112) and the 5 internal micro-ops (R123), one
constructor per row of spec/opcode_table.json. Operands are the assembled fields of R115 and R122. -/

namespace Sys2Proof

/-- An instruction of the block. -/
inductive Instr where
  /-- `configure()` (R167). -/
  | configure
  /-- `grab()` (R201). -/
  | grab
  /-- `release()` (R206). -/
  | release
  /-- `readMemory(address)` (R232). -/
  | readMem (address : Addr)
  /-- `writeMemory(address, data)` (R233). -/
  | writeMem (address : Addr) (data : Byte)
  /-- `readIo(port)` (R234). -/
  | readIo (port : Byte)
  /-- `writeIo(port, data)` (R235). -/
  | writeIo (port : Byte) (data : Byte)
  /-- `readRawBus(Addr)` (R236). -/
  | readRawAddr
  /-- `readRawBus(Data)` (R237). -/
  | readRawData
  /-- `readRawBus(Ctrl)` (R238). -/
  | readRawCtrl
  /-- `setWait(active)` (R280). -/
  | setWait (active : Bool)
  /-- `singleStep(jumpTarget)` (R282). -/
  | singleStep (jumpTarget : Addr)
  /-- `controlLine(signal, pulse)` (R281), with the signal code as the word has it (R117). -/
  | controlLine (signal : Byte) (pulse : Bool)
  /-- `readBank(chip, bank)` (R168), with the chip field as the word has it. -/
  | readBank (chip : BitVec 2) (bank : Bank)
  /-- `writeBank(chip, bank, value, driveMask)` (R169). -/
  | writeBank (chip : BitVec 2) (bank : Bank) (value : Byte) (mask : Byte)
  /-- `restoreBank(chip, bank)` (R170). -/
  | restoreBank (chip : BitVec 2) (bank : Bank)
  /-- `lineAssert(l)` (R171), with the line code as the word has it (R124). -/
  | lineAssert (line : BitVec 3)
  /-- `lineRelease(l)` (R172). -/
  | lineRelease (line : BitVec 3)
  deriving DecidableEq, Repr

end Sys2Proof
end

