-- ==== Sys2Proof/Decode.lean ====
section
/-! DEFINITION. Decoding of the command word (R110 to R117) and of the micro-op word (R122 to R124), and the encoder of
both, from the same tables. Decoding is total and rejects by name. The assembler line of a command (R136) stands at the
end. -/

namespace Sys2Proof

/-! ## Fields -/

/-- `W[7:0]`, the opcode of a command (R111) or the micro-opcode (R122). -/
def opField (w : Word) : Byte := w.extractLsb' 0 8

/-- `W[23:8]`, the 16-bit operand `A` (R111). -/
def fieldA (w : Word) : BitVec 16 := w.extractLsb' 8 16

/-- `A[7:0]`: port, signal code (R115). -/
def fieldALow (w : Word) : Byte := w.extractLsb' 8 8

/-- `A[15:8]`. -/
def fieldAHigh (w : Word) : Byte := w.extractLsb' 16 8

/-- `W[31:24]`, the 8-bit operand `B` (R111). -/
def fieldB (w : Word) : Byte := w.extractLsb' 24 8

/-- `U[9:8]` (R122). -/
def uopChip (w : Word) : BitVec 2 := w.extractLsb' 8 2

/-- `U[10]`: 0 is bank A, 1 is bank B (R122). -/
def uopBank (w : Word) : Bank := if w.extractLsb' 10 1 = 0#1 then .portA else .portB

/-- `U[13:11]` (R122). -/
def uopLine (w : Word) : BitVec 3 := w.extractLsb' 11 3

/-- `U[15:14]`, reserved (R122). -/
def uopReserved (w : Word) : BitVec 2 := w.extractLsb' 14 2

/-- `U[23:16]` (R122). -/
def uopValue (w : Word) : Byte := w.extractLsb' 16 8

/-- `U[31:24]` (R122). -/
def uopMask (w : Word) : Byte := w.extractLsb' 24 8

/-! ## Operand codes -/

/-- The chip a 2-bit chip field names (R122); 3 names none. -/
def chipOfCode (c : BitVec 2) : Option ChipId :=
  if c = 0#2 then some .chip0 else if c = 1#2 then some .chip1 else if c = 2#2 then some .chip2 else none

/-- The line a 3-bit line field names (R124); 5 to 7 are unassigned. -/
def lineOfCode (c : BitVec 3) : Option Line :=
  if c = 0#3 then some .busrq else if c = 1#3 then some .wait else if c = 2#3 then some .reset
  else if c = 3#3 then some .int else if c = 4#3 then some .nmi else none

/-- Whether the chip is one of the `P_NUM_CHIPS` chips present (R8). -/
def chipPresent (n : ChipCount) (c : ChipId) : Bool :=
  match c with
  | .chip0 => true
  | .chip1 => true
  | .chip2 => n == .three

/-! ## Decoding -/

/-- Why a word is rejected. -/
inductive Reject where
  /-- A command word whose opcode R112 does not list (R114); the micro-op codes are among them. -/
  | unassignedOpcode
  /-- A known opcode with a "must be 0" bit set (R113). -/
  | reservedNotZero
  /-- `READ_RAW` with `which = 3` (R116). -/
  | reservedSelector
  /-- A word whose `uop` R123 does not list. -/
  | unassignedMicroOp
  /-- A micro-op word with a reserved or unused field not 0 (R123). -/
  | microOpFieldNotZero
  deriving DecidableEq, Repr

/-- A word read as an instruction, or rejected by name. -/
inductive Decoded where
  | instr (i : Instr)
  | rejected (r : Reject)
  deriving DecidableEq, Repr

/-- The decoded instruction when the reserved bits are zero, and the named rejection when they are not. -/
def whenZero (zero : Bool) (r : Reject) (i : Instr) : Decoded :=
  if zero then .instr i else .rejected r

/-- The command decoder (R112 to R117). -/
def decodeCommand (w : Word) : Decoded :=
  let noA : Bool := fieldA w == 0#16
  let noAHigh : Bool := fieldAHigh w == 0#8
  let noB : Bool := fieldB w == 0#8
  if opField w = 0x01#8 then whenZero (noA && noB) .reservedNotZero .configure
  else if opField w = 0x02#8 then whenZero (noA && noB) .reservedNotZero .grab
  else if opField w = 0x03#8 then whenZero (noA && noB) .reservedNotZero .release
  else if opField w = 0x10#8 then whenZero noB .reservedNotZero (.readMem (fieldA w))
  else if opField w = 0x11#8 then .instr (.writeMem (fieldA w) (fieldB w))
  else if opField w = 0x12#8 then whenZero (noAHigh && noB) .reservedNotZero (.readIo (fieldALow w))
  else if opField w = 0x13#8 then whenZero noAHigh .reservedNotZero (.writeIo (fieldALow w) (fieldB w))
  else if opField w = 0x20#8 then
    if (w.extractLsb' 10 14 == 0#14 && noB) then
      if w.extractLsb' 8 2 = 0#2 then .instr .readRawAddr
      else if w.extractLsb' 8 2 = 1#2 then .instr .readRawData
      else if w.extractLsb' 8 2 = 2#2 then .instr .readRawCtrl
      else .rejected .reservedSelector
    else .rejected .reservedNotZero
  else if opField w = 0x30#8 then
    whenZero (w.extractLsb' 9 15 == 0#15 && noB) .reservedNotZero (.setWait (w.extractLsb' 8 1 == 1#1))
  else if opField w = 0x31#8 then whenZero noB .reservedNotZero (.singleStep (fieldA w))
  else if opField w = 0x32#8 then
    whenZero (noAHigh && w.extractLsb' 25 7 == 0#7) .reservedNotZero
      (.controlLine (fieldALow w) (w.extractLsb' 24 1 == 1#1))
  else .rejected .unassignedOpcode

/-- The micro-op decoder (R122 to R124). Chip and line codes are checked by `WellFormed`. -/
def decodeMicroOp (w : Word) : Decoded :=
  let noLine : Bool := uopLine w == 0#3
  let noBytes : Bool := uopValue w == 0#8 && uopMask w == 0#8
  let noReserved : Bool := uopReserved w == 0#2
  let noBank : Bool := w.extractLsb' 8 3 == 0#3
  if opField w = 0x80#8 then
    whenZero (noLine && noReserved && noBytes) .microOpFieldNotZero (.readBank (uopChip w) (uopBank w))
  else if opField w = 0x81#8 then
    whenZero (noLine && noReserved) .microOpFieldNotZero
      (.writeBank (uopChip w) (uopBank w) (uopValue w) (uopMask w))
  else if opField w = 0x82#8 then
    whenZero (noLine && noReserved && noBytes) .microOpFieldNotZero (.restoreBank (uopChip w) (uopBank w))
  else if opField w = 0x84#8 then
    whenZero (noBank && noReserved && noBytes) .microOpFieldNotZero (.lineAssert (uopLine w))
  else if opField w = 0x85#8 then
    whenZero (noBank && noReserved && noBytes) .microOpFieldNotZero (.lineRelease (uopLine w))
  else .rejected .unassignedMicroOp

/-- Whether the opcode byte lies in the micro-op half of the map (R114, R123): such a word is for the sequencer, and no
command. -/
def isMicroOpWord (w : Word) : Bool := w.extractLsb' 7 1 == 1#1

/-- A row of the opcode table: a command word by the command decoder, a micro-op word by the micro-op decoder. -/
def decodeWord (w : Word) : Decoded :=
  if isMicroOpWord w then decodeMicroOp w else decodeCommand w

/-! ## Bytes -/

/-- A word's four bytes, least significant first (R110). -/
def wordBytes (w : Word) : List Byte :=
  [w.extractLsb' 0 8, w.extractLsb' 8 8, w.extractLsb' 16 8, w.extractLsb' 24 8]

/-- The word four bytes stand for, the first the least significant (R110). -/
def wordOfBytes (b0 b1 b2 b3 : Byte) : Word := b3 ++ b2 ++ b1 ++ b0

/-- One instruction from a list of bytes, with the bytes after it; nothing when fewer than four are there (R137). -/
def decodeBytes : List Byte → Option (Decoded × List Byte)
  | b0 :: b1 :: b2 :: b3 :: rest => some (decodeWord (wordOfBytes b0 b1 b2 b3), rest)
  | _ => none

/-- The instruction a row of spec/opcode_table.json is read as, from its bits numbered as the table numbers them. -/
def decodeTableWord (nbits w : Nat) : Option Instr :=
  match decodeBytes (wordBytes (BitVec.ofNat 32 (w % 2 ^ nbits))) with
  | some (.instr i, _) => some i
  | _ => none

/-! ## Encoding -/

/-- A command word from its fields (R111). -/
def commandWord (op : Byte) (a : BitVec 16) (b : Byte) : Word := b ++ a ++ op

/-- The field value of a bank (R122). -/
def bankBit : Bank → BitVec 1
  | .portA => 0#1
  | .portB => 1#1

/-- A one-bit flag operand (R115). -/
def flagBit (f : Bool) : BitVec 1 := if f then 1#1 else 0#1

/-- A micro-op word from its fields (R122). -/
def microWord (uop : Byte) (chip : BitVec 2) (bank : BitVec 1) (line : BitVec 3) (value mask : Byte) : Word :=
  mask ++ value ++ 0#2 ++ line ++ bank ++ chip ++ uop

/-- The opcode byte of an instruction (R112, R123). -/
def opcodeByte : Instr → Byte
  | .configure => 0x01#8
  | .grab => 0x02#8
  | .release => 0x03#8
  | .readMem _ => 0x10#8
  | .writeMem _ _ => 0x11#8
  | .readIo _ => 0x12#8
  | .writeIo _ _ => 0x13#8
  | .readRawAddr => 0x20#8
  | .readRawData => 0x20#8
  | .readRawCtrl => 0x20#8
  | .setWait _ => 0x30#8
  | .singleStep _ => 0x31#8
  | .controlLine _ _ => 0x32#8
  | .readBank _ _ => 0x80#8
  | .writeBank _ _ _ _ => 0x81#8
  | .restoreBank _ _ => 0x82#8
  | .lineAssert _ => 0x84#8
  | .lineRelease _ => 0x85#8

/-- The word of an instruction (R112, R122, R123). -/
def encode (i : Instr) : Word :=
  match i with
  | .configure => commandWord 0x01#8 0#16 0#8
  | .grab => commandWord 0x02#8 0#16 0#8
  | .release => commandWord 0x03#8 0#16 0#8
  | .readMem address => commandWord 0x10#8 address 0#8
  | .writeMem address data => commandWord 0x11#8 address data
  | .readIo port => commandWord 0x12#8 (0#8 ++ port) 0#8
  | .writeIo port data => commandWord 0x13#8 (0#8 ++ port) data
  | .readRawAddr => commandWord 0x20#8 0#16 0#8
  | .readRawData => commandWord 0x20#8 1#16 0#8
  | .readRawCtrl => commandWord 0x20#8 2#16 0#8
  | .setWait active => commandWord 0x30#8 (0#15 ++ flagBit active) 0#8
  | .singleStep jumpTarget => commandWord 0x31#8 jumpTarget 0#8
  | .controlLine signal pulse => commandWord 0x32#8 (0#8 ++ signal) (0#7 ++ flagBit pulse)
  | .readBank chip bank => microWord 0x80#8 chip (bankBit bank) 0#3 0#8 0#8
  | .writeBank chip bank value mask => microWord 0x81#8 chip (bankBit bank) 0#3 value mask
  | .restoreBank chip bank => microWord 0x82#8 chip (bankBit bank) 0#3 0#8 0#8
  | .lineAssert line => microWord 0x84#8 0#2 0#1 line 0#8 0#8
  | .lineRelease line => microWord 0x85#8 0#2 0#1 line 0#8 0#8

/-! ## Assembler syntax (R136) -/

/-- A number in hexadecimal, as an operand of an assembler line. -/
def hexOperand (n : Nat) : String := "0x" ++ String.ofList (Nat.toDigits 16 n)

/-- A flag operand of an assembler line. -/
def flagOperand (f : Bool) : String := if f then "1" else "0"

/-- The name of a `CONTROL_LINE` signal code (R117); other codes have none. -/
def signalOperand (signal : Byte) : Option String :=
  if signal = 0x00#8 then some "RESET"
  else if signal = 0x01#8 then some "INT"
  else if signal = 0x02#8 then some "NMI"
  else none

/-- The assembler line of a command (R136), its operands in hexadecimal; a micro-op has none. -/
def assemblerLine : Instr → Option String
  | .configure => some "CONFIGURE"
  | .grab => some "GRAB"
  | .release => some "RELEASE"
  | .readMem address => some ("READ_MEM " ++ hexOperand address.toNat)
  | .writeMem address data => some ("WRITE_MEM " ++ hexOperand address.toNat ++ ", " ++ hexOperand data.toNat)
  | .readIo port => some ("READ_IO " ++ hexOperand port.toNat)
  | .writeIo port data => some ("WRITE_IO " ++ hexOperand port.toNat ++ ", " ++ hexOperand data.toNat)
  | .readRawAddr => some "READ_RAW ADDR"
  | .readRawData => some "READ_RAW DATA"
  | .readRawCtrl => some "READ_RAW CTRL"
  | .setWait active => some ("SET_WAIT " ++ flagOperand active)
  | .singleStep jumpTarget => some ("SINGLE_STEP " ++ hexOperand jumpTarget.toNat)
  | .controlLine signal pulse =>
    (signalOperand signal).map fun name => "CONTROL_LINE " ++ name ++ ", " ++ flagOperand pulse
  | .readBank _ _ => none
  | .writeBank _ _ _ _ => none
  | .restoreBank _ _ => none
  | .lineAssert _ => none
  | .lineRelease _ => none

end Sys2Proof
end

