-- ==== Sys2Proof/WellFormed.lean ====
section
/-! DEFINITION. Which instructions the block can perform (R123): every command, and every micro-op whose chip exists and
whose line code is assigned. -/

namespace Sys2Proof

/-- The check of a chip field: `chip < P_NUM_CHIPS` (R122, R123). -/
def chipFieldOk (n : ChipCount) (c : BitVec 2) : Bool :=
  match chipOfCode c with
  | some chip => chipPresent n chip
  | none => false

/-- The check of a line field: an assigned line code (R123, R124). -/
def lineFieldOk (c : BitVec 3) : Bool :=
  (lineOfCode c).isSome

/-- What R123 asks of an instruction. A command has no ill-formed operand: an unknown `CONTROL_LINE` signal code is a
defined error response (R117). -/
def WellFormed (n : ChipCount) : Instr → Bool
  | .configure => true
  | .grab => true
  | .release => true
  | .readMem _ => true
  | .writeMem _ _ => true
  | .readIo _ => true
  | .writeIo _ _ => true
  | .readRawAddr => true
  | .readRawData => true
  | .readRawCtrl => true
  | .setWait _ => true
  | .singleStep _ => true
  | .controlLine _ _ => true
  | .readBank c _ => chipFieldOk n c
  | .writeBank c _ _ _ => chipFieldOk n c
  | .restoreBank c _ => chipFieldOk n c
  | .lineAssert l => lineFieldOk l
  | .lineRelease l => lineFieldOk l

end Sys2Proof
end

