-- ==== Sys2Proof/Machine/Registry.lean ====
section
/-! DEFINITION. The signal registry (R160, R161), its checks WF1 to WF5 (R162 to R166), the default and test registries
(R131, R132), polarity (R24), the default values of the parameters (R10 to R20), and `decodeCtrl` (R238). -/

namespace Sys2Proof.Machine

/-! ## Indexing -/

/-- The value of a line. -/
def ofLine {α : Type} (x : PerLine α) : Line → α
  | .busrq => x.busrq
  | .wait => x.wait
  | .reset => x.reset
  | .int => x.int
  | .nmi => x.nmi

/-- The family with one line's value replaced. -/
def withLine {α : Type} (x : PerLine α) (l : Line) (v : α) : PerLine α :=
  match l with
  | .busrq => { x with busrq := v }
  | .wait => { x with wait := v }
  | .reset => { x with reset := v }
  | .int => { x with int := v }
  | .nmi => { x with nmi := v }

/-- The value of a bank. -/
def ofBank {α : Type} (x : PerBank α) (b : BankId) : α :=
  match b.chip, b.bank with
  | .chip0, .portA => x.a0
  | .chip0, .portB => x.b0
  | .chip1, .portA => x.a1
  | .chip1, .portB => x.b1
  | .chip2, .portA => x.a2
  | .chip2, .portB => x.b2

/-- Every line, in the order `configure` releases them (R167). -/
def allLines : List Line := [.busrq, .wait, .reset, .int, .nmi]

/-- The banks of all three possible chips. -/
def allBanks : List BankId :=
  [⟨.chip0, .portA⟩, ⟨.chip0, .portB⟩, ⟨.chip1, .portA⟩, ⟨.chip1, .portB⟩, ⟨.chip2, .portA⟩, ⟨.chip2, .portB⟩]

/-- The chips present, in order (R8). -/
def chipsOf (n : ChipCount) : List ChipId :=
  match n with
  | .two => [.chip0, .chip1]
  | .three => [.chip0, .chip1, .chip2]

/-- The banks of the chips present. -/
def banksOf (n : ChipCount) : List BankId :=
  (chipsOf n).flatMap fun c => [⟨c, .portA⟩, ⟨c, .portB⟩]

/-- A chip id as a number (R8). -/
def chipNumber : ChipId → Byte
  | .chip0 => 0#8
  | .chip1 => 1#8
  | .chip2 => 2#8

/-- The signal of a discrete line (R131). -/
def lineSignal : Line → SignalName
  | .busrq => .busrq
  | .wait => .wait
  | .reset => .reset
  | .int => .int
  | .nmi => .nmi

/-! ## Lookup -/

/-- Whether a record's place exists: a record on a bank of an absent chip is in no registry (R131, "only when
`P_NUM_CHIPS = 3`"). -/
def recordPresent (n : ChipCount) (r : SignalRecord) : Bool :=
  match r.place with
  | .bits b _ => chipPresent n b.chip
  | .gpio => true

/-- `lookup(name)` (R160); `none` is `UnknownSignal`. -/
def lookup (p : Params) (n : SignalName) : Option SignalRecord :=
  p.signalMap.find? fun r => r.name == n && recordPresent p.numChips r

/-- The bank and mask of a signal on an expander bank. -/
def lookupBits (p : Params) (n : SignalName) : Option (BankId × Byte) :=
  match lookup p n with
  | some ⟨_, .bits b m⟩ => some (b, m)
  | _ => none

/-- The composite lookup of two or more names on one bank (R161); `none` for an unknown name and for names on different
banks, which are refused. -/
def lookupAll (p : Params) : List SignalName → Option (BankId × Byte)
  | [] => none
  | [n] => lookupBits p n
  | n :: ns =>
    match lookupBits p n, lookupAll p ns with
    | some (b, m), some (b', m') => if b = b' then some (b, m ||| m') else none
    | _, _ => none

/-- `Bank(name)` (R23, R160). A registry that passes the checks has every name a rule uses, so the default never stands
for a bank in a run. -/
def bankOf (p : Params) (n : SignalName) : BankId :=
  match lookupBits p n with
  | some (b, _) => b
  | none => default

/-- `lookup(name).bitMask` (R160), and no bits for an absent optional signal such as `M1`. -/
def maskOf (p : Params) (n : SignalName) : Byte :=
  match lookupBits p n with
  | some (_, m) => m
  | none => 0#8

/-! ## Polarity -/

/-- `lvl(s, Active)` (R24): `P_POLARITY(s)` as a level, true for 1. -/
def activeLevel (p : Params) (n : SignalName) : Bool := p.activeHigh.contains n

/-! ## Checks of a registry -/

/-- One bit set. -/
def isSingleBit (m : Byte) : Bool := m != 0#8 && (m &&& (m - 1#8)) == 0#8

/-- The masks of the records on a bank. -/
def masksOn (map : List SignalRecord) (b : BankId) : List Byte :=
  map.filterMap fun r =>
    match r.place with
    | .bits b' m => if b' = b then some m else none
    | .gpio => none

/-- The single-bit masks among them, which is every mask but the whole-bank one. -/
def singlesOn (map : List SignalRecord) (b : BankId) : List Byte :=
  (masksOn map b).filter fun m => m != 0xFF#8

/-- How many whole-bank signals a bank has. -/
def wholesOn (map : List SignalRecord) (b : BankId) : Nat :=
  ((masksOn map b).filter fun m => m == 0xFF#8).length

/-- No name twice, so that `lookup` has one answer (R160). -/
def namesDistinct : List SignalRecord → Bool
  | [] => true
  | r :: rs => rs.all (fun r' => r'.name != r.name) && namesDistinct rs

/-- The partition of one bank (R162): one whole-bank signal, or eight single-bit signals that cover it (with at most one
supersignal beside them). Eight single bits whose union is the bank are disjoint. -/
def bankPartitioned (map : List SignalRecord) (b : BankId) : Bool :=
  let singles := singlesOn map b
  wholesOn map b ≤ 1 &&
    (if singles.isEmpty then wholesOn map b == 1
     else singles.all isSingleBit && singles.length == 8 && singles.foldl (· ||| ·) 0#8 == 0xFF#8)

/-- Check WF1 (R162). -/
def checkPartition (p : Params) : Bool :=
  namesDistinct p.signalMap &&
    allBanks.all fun b => bankPartitioned p.signalMap b || !chipPresent p.numChips b.chip

/-- A whole-bank signal. -/
def isWholeBank (p : Params) (n : SignalName) : Bool :=
  match lookupBits p n with
  | some (_, m) => m == 0xFF#8
  | none => false

/-- Check WF2 (R163). -/
def checkBusFacing (p : Params) : Bool :=
  [SignalName.addrLo, .addrHi, .data, .ctrl].all (isWholeBank p) &&
    bankOf p .addrLo != bankOf p .addrHi && bankOf p .addrLo != bankOf p .data &&
    bankOf p .addrLo != bankOf p .ctrl && bankOf p .addrHi != bankOf p .data &&
    bankOf p .addrHi != bankOf p .ctrl && bankOf p .data != bankOf p .ctrl

/-- A single-bit signal on the bank of `CTRL`. -/
def isCtrlBit (p : Params) (n : SignalName) : Bool :=
  match lookupBits p n with
  | some (b, m) => b == bankOf p .ctrl && isSingleBit m
  | none => false

/-- Check WF3 (R164); WF1 makes the bits of different names different. -/
def checkControlBits (p : Params) : Bool :=
  [SignalName.mreq, .ioreq, .rd, .wr, .busak].all (isCtrlBit p) &&
    (isCtrlBit p .m1 || (lookup p .m1).isNone)

/-- A discrete signal. -/
def isDiscrete (p : Params) (n : SignalName) : Bool :=
  match lookup p n with
  | some ⟨_, .gpio⟩ => true
  | _ => false

/-- Check WF4 (R165). -/
def checkHeldLines (p : Params) : Bool :=
  allLines.all fun l => isDiscrete p (lineSignal l)

/-- Check WF5 (R166): the banks that are written whole, `ADDR_LO`, `ADDR_HI` and `DATA`, are no supersignal's. -/
def checkSupersignal (p : Params) : Bool :=
  [SignalName.addrLo, .addrHi, .data].all fun n => (singlesOn p.signalMap (bankOf p n)).isEmpty

/-- The checks WF1 to WF5 of a registry (R162 to R166). A registry that fails one is refused, and no command runs with
it. -/
def registryOk (p : Params) : Bool :=
  checkPartition p && checkBusFacing p && checkControlBits p && checkHeldLines p && checkSupersignal p

/-! ## Registries -/

/-- `DefaultMap` (R131). -/
def defaultMap : List SignalRecord :=
  [ ⟨.addrLo, .bits ⟨.chip0, .portA⟩ 0xFF#8⟩,
    ⟨.addrHi, .bits ⟨.chip0, .portB⟩ 0xFF#8⟩,
    ⟨.data, .bits ⟨.chip1, .portA⟩ 0xFF#8⟩,
    ⟨.ctrl, .bits ⟨.chip1, .portB⟩ 0xFF#8⟩,
    ⟨.busak, .bits ⟨.chip1, .portB⟩ 0x01#8⟩,
    ⟨.rd, .bits ⟨.chip1, .portB⟩ 0x02#8⟩,
    ⟨.wr, .bits ⟨.chip1, .portB⟩ 0x04#8⟩,
    ⟨.ioreq, .bits ⟨.chip1, .portB⟩ 0x08#8⟩,
    ⟨.mreq, .bits ⟨.chip1, .portB⟩ 0x10#8⟩,
    ⟨.m1, .bits ⟨.chip1, .portB⟩ 0x20#8⟩,
    ⟨.ctrlSpare6, .bits ⟨.chip1, .portB⟩ 0x40#8⟩,
    ⟨.ctrlSpare7, .bits ⟨.chip1, .portB⟩ 0x80#8⟩,
    ⟨.spare2A, .bits ⟨.chip2, .portA⟩ 0xFF#8⟩,
    ⟨.spare2B, .bits ⟨.chip2, .portB⟩ 0xFF#8⟩,
    ⟨.busrq, .gpio⟩,
    ⟨.wait, .gpio⟩,
    ⟨.reset, .gpio⟩,
    ⟨.int, .gpio⟩,
    ⟨.nmi, .gpio⟩ ]

/-- `TestMap` (R132): the bits of the source's test mapping, on the bank of `CTRL` in the default registry. It is used
only with `decodeCtrl`, and fails WF4. -/
def testMap : List SignalRecord :=
  [ ⟨.ctrl, .bits ⟨.chip1, .portB⟩ 0xFF#8⟩,
    ⟨.busrq, .bits ⟨.chip1, .portB⟩ 0x01#8⟩,
    ⟨.mreq, .bits ⟨.chip1, .portB⟩ 0x10#8⟩,
    ⟨.m1, .bits ⟨.chip1, .portB⟩ 0x20#8⟩ ]

/-- `decodeCtrl` (R238): the electrical level of every single-bit signal of the bank of `CTRL`. -/
def decodeCtrl (p : Params) (v : Byte) : List (SignalName × Bool) :=
  p.signalMap.filterMap fun r =>
    match r.place with
    | .bits b m => if b = bankOf p .ctrl ∧ m ≠ 0xFF#8 then some (r.name, (v &&& m) != 0#8) else none
    | .gpio => none

/-! ## Default parameter values -/

/-- `P_REG` by default (R127). -/
def defaultRegs : RegMap where
  iodirA := 0x00#8
  iodirB := 0x01#8
  ipolA := 0x02#8
  ipolB := 0x03#8
  iocon := 0x0A#8
  gppuA := 0x0C#8
  gppuB := 0x0D#8
  gpioA := 0x12#8
  gpioB := 0x13#8
  olatA := 0x14#8
  olatB := 0x15#8

/-- `P_CTRL_BYTE` by default (R126): `0x40 | (c << 1) | rw`. -/
def defaultCtrlBytes : CtrlBytes where
  write0 := 0x40#8
  read0 := 0x41#8
  write1 := 0x42#8
  read1 := 0x43#8
  write2 := 0x44#8
  read2 := 0x45#8

/-- A bank's registers at the expander's own power-on (R361). -/
def porBank : BankRegs where
  iodir := 0xFF#8
  ipol := 0x00#8
  gppu := 0x00#8
  olat := 0x00#8
  gpinten := 0x00#8

/-- `P_EXP_POR` by default (R361). -/
def porChip : ChipRegs where
  iocon := 0x00#8
  bankA := porBank
  bankB := porBank

/-- The parameters at their default values (R10 to R15, R17, R19, R20), the OPEN ones as arguments (R8, R9, R16, R18). -/
def defaultParams (chips : ChipCount) (polls : Nat) (pins : PerLine Nat) (pulseMin : Nat) : Params where
  numChips := chips
  grabPollLimit := polls
  signalMap := defaultMap
  activeHigh := []
  regs := defaultRegs
  ctrlBytes := defaultCtrlBytes
  dirInputBit := true
  writeOrder := .latchFirst
  gpioPins := pins
  ssWaitRelease := false
  pulseMin := pulseMin
  expPor := porChip
  oracle := .free

/-- A pin identifier that none of the taken ones equals: the chosen one, unless it is taken. -/
def freePin (taken : List Nat) (chosen : Nat) : Nat := if chosen ∈ taken then chosen + taken.sum + 1 else chosen

/-- `P_GPIO_PIN(l)` (R16): five distinct identifiers, whatever pins the parameters choose. Pins that are distinct are taken
as they are. DESIGN CHOICE (log 28). -/
def gpioPin (p : Params) (l : Line) : Nat :=
  let wait := freePin [p.gpioPins.busrq] p.gpioPins.wait
  let reset := freePin [p.gpioPins.busrq, wait] p.gpioPins.reset
  let int := freePin [p.gpioPins.busrq, wait, reset] p.gpioPins.int
  match l with
  | .busrq => p.gpioPins.busrq
  | .wait => wait
  | .reset => reset
  | .int => int
  | .nmi => freePin [p.gpioPins.busrq, wait, reset, int] p.gpioPins.nmi

/-- The `IOCON` value `configure` writes (R128). -/
def ioconValue : Byte := 0x28#8

/-- `HAEN`, bit 3 of `IOCON`: the chip decodes its hardware address (R128). -/
def decodesAddress (iocon : Byte) : Bool := (iocon &&& 0x08#8) != 0#8

end Sys2Proof.Machine
end

