-- ==== Sys2Proof/Machine/State.lean ====
section
/-! DEFINITION. The state of the machine as plain data (10_state.md), the reasons a step can stop, and the state after
reset (R51, R360 to R362). -/

namespace Sys2Proof.Machine

/-! ## Why a step can stop -/

/-- The faults. The Contention fault of R43 is no reason to stop: the spec records it in the event history and the block
goes on (`Event.contention`). -/
inductive Fault where
  /-- The Stuck outcome of R327: an earlier transfer never completed, so the block has no next step. Raised by `step` only.
  Safe: the hardware waits where the model stops. -/
  | transportHung
  deriving DecidableEq, Repr

/-- The refusals of R327. -/
inductive Refusal where
  /-- An instruction without a meaning yet; raised by an arm of `exec` only. Safe. -/
  | notModelled (mnemonic : String)
  /-- A registry that fails one of the checks WF1 to WF5 (R162 to R166, R327); raised by every meaning, since no command
  runs with it. Safe. -/
  | registryRejected
  /-- A micro-op word the sequencer never generates (R123, R327): another `uop`, a reserved bit set, an absent chip or an
  unassigned line code; raised by `step` and by the micro-ops' meanings. Safe. -/
  | microOpNotGenerated
  deriving DecidableEq, Repr

/-! ## Parts of the state -/

/-- The Bus Arbiter's two states (R32, R200). -/
inductive Arb where
  | released
  | owned
  deriving DecidableEq, Repr, Inhabited

/-- The single-step snapshot (R33). -/
structure Snapshot where
  saved0 : Byte
  saved1 : Byte
  saved2 : Byte
  jumpTarget : Addr
  deriving DecidableEq, Repr, Inhabited

/-- The direction of a discrete pin (R34). -/
inductive Dir where
  | input
  | output
  deriving DecidableEq, Repr, Inhabited

/-- What the block last gave a discrete pin: direction and output level (R34), and whether the pin's pull-up is on
(R42, R135). -/
structure LinePin where
  dir : Dir
  out : Bool
  pullUp : Bool
  deriving DecidableEq, Repr, Inhabited

/-- The errors the block reports, with their information fields (R121, R320 to R326). -/
inductive Err where
  | unknownSignal (code : Byte)
  | busNotOwned
  | busGrantTimeout
  | transport (chip : ChipId) (reg : Byte) (k : Nat)
  | illegalCommand (op : Byte)
  | notConfigured
  deriving DecidableEq, Repr

/-- The sequencer record of the command in progress (R35). -/
structure Sequencer where
  cmd : Instr
  k : Nat
  touched : List BankId
  strobed : Bool
  firstErr : Option Err
  warn : Bool
  deriving DecidableEq, Repr

/-- The registers of the attached expander chips (R37). Chip 2 stands in the state whatever `P_NUM_CHIPS` is, and is
never reached when there are two chips (log 23). -/
structure Expanders where
  chip0 : ChipRegs
  chip1 : ChipRegs
  chip2 : ChipRegs
  deriving DecidableEq, Repr

/-- The Z80 CPU as an environment agent (R41). -/
structure Cpu where
  /-- `cpu.granted` (R41). -/
  granted : Bool
  /-- The next instruction fetch is the one at address 0 that R52 gives when RESET goes Inactive. -/
  fetchFromZero : Bool
  /-- The CPU is in reset: RESET was Active when it was last seen (R52). -/
  inReset : Bool
  deriving DecidableEq, Repr

/-- The bus cycle in progress after the last port action (R45, R46), with the address of a memory read cycle and the
byte the memory answers for it ("any byte, fixed for the cycle"). -/
inductive BusCycle where
  | idle
  | memRead (address : Addr) (byte : Byte)
  | memWrite
  | ioRead
  | ioWrite
  deriving DecidableEq, Repr

/-- An entry of the event history `H` (R47). -/
inductive Event where
  /-- `Xfer(c, r, W, v, ok|err)`. -/
  | xferW (chip : ChipId) (reg : Byte) (value : Byte) (ok : Bool)
  /-- `Xfer(c, r, R, v, ok)`, or `Xfer(c, r, R, -, err)` with no value (R175). -/
  | xferR (chip : ChipId) (reg : Byte) (value : Option Byte)
  /-- `GpioDir(pin, dir)`. -/
  | gpioDir (pin : Nat) (dir : Dir)
  /-- `GpioPU(pin, on)`. -/
  | gpioPU (pin : Nat) (on : Bool)
  /-- `GpioW(pin, level)`. -/
  | gpioW (pin : Nat) (level : Bool)
  /-- `GpioR(pin)` with the level read. -/
  | gpioR (pin : Nat) (level : Bool)
  | memRead (address : Addr) (data : Byte)
  | memWrite (address : Addr) (data : Byte)
  | ioRead (port : Byte) (data : Byte)
  | ioWrite (port : Byte) (data : Byte)
  /-- The Contention fault on the lines of a bank (R43). -/
  | contention (bank : BankId) (lines : Byte)
  /-- `Warn(AlreadyOwned)` (R332). -/
  | warnAlreadyOwned
  /-- A response (R118). -/
  | response (word : Reply)
  deriving DecidableEq, Repr

/-- What a micro-op given to the sequencer returned (log 9). -/
inductive UopResult where
  | done
  | value (v : Byte)
  | error (e : Err)
  deriving DecidableEq, Repr

/-- The state of the machine. -/
structure State where
  /-- The parameters (R8 to R20, R53); no step changes them (log 2). -/
  params : Params
  /-- `S.configured` (R31). -/
  configured : Bool
  /-- `S.arb` (R32); `hasBus` is `arb = owned`. -/
  arb : Arb
  /-- `S.pending` (R33). -/
  pending : Option Snapshot
  /-- `S.line[l]` and the pull-ups (R34, R42). -/
  lines : PerLine LinePin
  /-- `S.seq` (R35), `none` between commands. -/
  seq : Option Sequencer
  /-- The expander registers `E` (R37). -/
  chips : Expanders
  /-- The CPU agent (R41, R52). -/
  cpu : Cpu
  /-- The Z80 memory (R45, R80): the bytes determined so far, addresses strictly rising. -/
  mem : List Host.Cell
  /-- The bus cycle in progress (R45, R46). -/
  cycle : BusCycle
  /-- The event history `H` (R47), oldest first. -/
  history : List Event
  /-- The bytes the caller has sent on the command port and the block has not taken (R110). -/
  cmdPort : List Byte
  /-- The last response word (R118). -/
  response : Option Reply
  /-- A micro-op word given to the sequencer (R122, log 9). -/
  uopPort : Option Word
  /-- What the last such micro-op returned (log 9). -/
  uopResult : Option UopResult
  /-- A transfer never completed (R327). -/
  hung : Bool
  /-- The environment's coming draws, one per port action (log 4). -/
  script : List Draw
  /-- How many draws beyond the script have been used (log 4). -/
  draws : Nat
  deriving DecidableEq, Repr

/-! ## Reset -/

/-- A discrete pin after reset: an input (R51, R362), with `out` and the pull-up as log 11 names them. -/
def LinePin.atReset : LinePin where
  dir := .input
  out := false
  pullUp := false

/-- The state at power-on with given parameters: the block reset values (R51, R360) and the expanders at `P_EXP_POR`
(R361). -/
def State.powerOn (p : Params) : State where
  params := p
  configured := false
  arb := .released
  pending := none
  lines := ⟨.atReset, .atReset, .atReset, .atReset, .atReset⟩
  seq := none
  chips := ⟨p.expPor, p.expPor, p.expPor⟩
  cpu := ⟨false, false, false⟩
  mem := []
  cycle := .idle
  history := []
  cmdPort := []
  response := none
  uopPort := none
  uopResult := none
  hung := false
  script := []
  draws := 0

/-- The machine right after reset: power-on with the default parameters, the OPEN ones uninterpreted. -/
def State.reset : State :=
  State.powerOn (defaultParams Config.numChips Config.grabPollLimit Config.gpioPins Config.pulseMin)

end Sys2Proof.Machine
end

