-- ==== Sys2Proof/Machine/Operands.lean ====
section
/-! DEFINITION. Every operand form: the address split (R85), the jump bytes (R84, R284), the register addresses (R127),
the direction values (R129), the strobe masks (R134), the control-bank values (R133) and the `CONTROL_LINE` codes
(R117). -/

namespace Sys2Proof.Machine

/-! ## Addresses -/

/-- `address & 0xFF`, for ADDR_LO (R85). -/
def addrLow (a : Addr) : Byte := a.extractLsb' 0 8

/-- `address >> 8`, for ADDR_HI (R85). -/
def addrHigh (a : Addr) : Byte := a.extractLsb' 8 8

/-- `(hi << 8) | lo` (R85, R236). -/
def addrOf (hi lo : Byte) : Addr := hi ++ lo

/-- The unconditional-jump opcode (R21). -/
def jumpOpcode : Byte := 0xC3#8

/-- The three bytes `singleStep` writes with their addresses, in order (R284). -/
def jumpBytes (target : Addr) : List (Addr × Byte) :=
  [(0#16, jumpOpcode), (1#16, addrLow target), (2#16, addrHigh target)]

/-- The saved bytes with their own addresses, in the order of the restore (R286). -/
def savedBytes (snap : Snapshot) : List (Addr × Byte) :=
  [(0#16, snap.saved0), (1#16, snap.saved1), (2#16, snap.saved2)]

/-! ## Expander registers -/

/-- A register the block writes (R127). -/
inductive Reg where
  | iodir (b : Bank)
  | ipol (b : Bank)
  | iocon
  | gppu (b : Bank)
  | olat (b : Bank)
  deriving DecidableEq, Repr

/-- The address of a written register by `P_REG` (R127). -/
def regAddr (p : Params) : Reg → Byte
  | .iodir .portA => p.regs.iodirA
  | .iodir .portB => p.regs.iodirB
  | .ipol .portA => p.regs.ipolA
  | .ipol .portB => p.regs.ipolB
  | .iocon => p.regs.iocon
  | .gppu .portA => p.regs.gppuA
  | .gppu .portB => p.regs.gppuB
  | .olat .portA => p.regs.olatA
  | .olat .portB => p.regs.olatB

/-- The address of the input-latch register of a bank (R127). -/
def gpioAddr (p : Params) : Bank → Byte
  | .portA => p.regs.gpioA
  | .portB => p.regs.gpioB

/-- The control byte of a chip (R126), for a read or a write. -/
def ctrlByte (p : Params) (c : ChipId) (read : Bool) : Byte :=
  match c, read with
  | .chip0, false => p.ctrlBytes.write0
  | .chip0, true => p.ctrlBytes.read0
  | .chip1, false => p.ctrlBytes.write1
  | .chip1, true => p.ctrlBytes.read1
  | .chip2, false => p.ctrlBytes.write2
  | .chip2, true => p.ctrlBytes.read2

/-- The bytes of the transport frame of a transfer (R125): three for a write, two for a read. -/
def frameOf (p : Params) : Event → Option (List Byte)
  | .xferW c r v _ => some [ctrlByte p c false, r, v]
  | .xferR c r _ => some [ctrlByte p c true, r]
  | _ => none

/-- `DIRVAL(m)` (R129). -/
def dirVal (p : Params) (m : Byte) : Byte := if p.dirInputBit then ~~~m else m

/-- `ALLIN` (R129). -/
def allIn (p : Params) : Byte := dirVal p 0#8

/-- The bits of a bank that are outputs, from its direction register (R38). -/
def outputBits (p : Params) (iodir : Byte) : Byte := if p.dirInputBit then ~~~iodir else iodir

/-! ## Strobes -/

/-- `MEMRD` (R134). -/
def memRdMask (p : Params) : Byte := maskOf p .mreq ||| maskOf p .rd

/-- `MEMWR` (R134). -/
def memWrMask (p : Params) : Byte := maskOf p .mreq ||| maskOf p .wr

/-- `IORD` (R134). -/
def ioRdMask (p : Params) : Byte := maskOf p .ioreq ||| maskOf p .rd

/-- `IOWR` (R134). -/
def ioWrMask (p : Params) : Byte := maskOf p .ioreq ||| maskOf p .wr

/-- The four strobe bits of the control bank (R133). -/
def strobeMask (p : Params) : Byte := maskOf p .mreq ||| maskOf p .ioreq ||| maskOf p .rd ||| maskOf p .wr

/-- The bits of a signal, when its Active level is 1. -/
def highBits (p : Params) (n : SignalName) : Byte := if activeLevel p n then maskOf p n else 0#8

/-- The strobe bits whose Active level is 1. -/
def strobeHigh (p : Params) : Byte := highBits p .mreq ||| highBits p .ioreq ||| highBits p .rd ||| highBits p .wr

/-- `ctrlValue(M)` (R133): a strobe of `M` at its Active level, another strobe at its Inactive level, every other bit 1. A
strobe bit is 1 exactly when being in `M` and being active high agree. -/
def ctrlValue (p : Params) (m : Byte) : Byte := ~~~strobeMask p ||| ~~~(m ^^^ strobeHigh p)

/-! ## Lines -/

/-- The line of a `CONTROL_LINE` signal code (R117); `none` is `UnknownSignal`. -/
def controlLineOf (signal : Byte) : Option Line :=
  if signal = 0x00#8 then some .reset
  else if signal = 0x01#8 then some .int
  else if signal = 0x02#8 then some .nmi
  else none

end Sys2Proof.Machine
end

