-- ==== Sys2Proof/Machine/Flags.lean ====
section
/-! DEFINITION. Status, warn bit and response words (R118 to R121), and the readings of a control byte: a signal being
Active (R24, R203) and the bus cycle the strobes make (R45, R46). -/

namespace Sys2Proof.Machine

/-! ## The response word -/

/-- The status code of `OK` (R119). -/
def statusOk : Byte := 0x00#8

/-- The status code of an error (R119). -/
def statusOf : Err → Byte
  | .unknownSignal _ => 0x01#8
  | .busNotOwned => 0x02#8
  | .busGrantTimeout => 0x03#8
  | .transport _ _ _ => 0x04#8
  | .illegalCommand _ => 0x05#8
  | .notConfigured => 0x06#8

/-- The `d16` of an error (R121). -/
def errD16 : Err → BitVec 16
  | .transport c r _ => chipNumber c ++ r
  | _ => 0#16

/-- The `d8` of an error (R121). -/
def errD8 : Err → Byte
  | .transport _ _ k => BitVec.ofNat 8 k
  | .unknownSignal code => code
  | .illegalCommand op => op
  | _ => 0#8

/-- The response word from its fields (R118). -/
def replyWord (status : Byte) (warn : Bool) (d16 : BitVec 16) (d8 : Byte) : Reply :=
  d8 ++ d16 ++ 0#7 ++ flagBit warn ++ status

/-- An `OK` response (R120). -/
def okReply (warn : Bool) (d16 : BitVec 16) (d8 : Byte) : Reply := replyWord statusOk warn d16 d8

/-- An error response (R121). -/
def errReply (warn : Bool) (e : Err) : Reply := replyWord (statusOf e) warn (errD16 e) (errD8 e)

/-- `R[7:0]` (R118). -/
def replyStatus (r : Reply) : Byte := r.extractLsb' 0 8

/-- `R[8]` (R118). -/
def replyWarn (r : Reply) : Bool := r.extractLsb' 8 1 == 1#1

/-- `R[31:16]` (R118). -/
def replyD16 (r : Reply) : BitVec 16 := r.extractLsb' 16 16

/-- `R[39:32]` (R118). -/
def replyD8 (r : Reply) : Byte := r.extractLsb' 32 8

/-- The five bytes of a response, least significant first (R118). -/
def replyBytes (r : Reply) : List Byte :=
  [r.extractLsb' 0 8, r.extractLsb' 8 8, r.extractLsb' 16 8, r.extractLsb' 24 8, r.extractLsb' 32 8]

/-! ## Readings of the control bank -/

/-- A signal of the control bank is Active in the byte `v` (R24). -/
def isActive (p : Params) (n : SignalName) (v : Byte) : Bool := (v &&& maskOf p n) == highBits p n

/-- `busakActive(v)` (R203). -/
def busakActive (p : Params) (v : Byte) : Bool := isActive p .busak v

/-- The kinds of bus cycle (R45, R46). -/
inductive CycleKind where
  | none
  | memRead
  | memWrite
  | ioRead
  | ioWrite
  deriving DecidableEq, Repr

/-- The cycle the strobe levels make: exactly two of them Active (R45, R46). -/
def cycleKind (p : Params) (ctrl : Byte) : CycleKind :=
  match isActive p .mreq ctrl, isActive p .ioreq ctrl, isActive p .rd ctrl, isActive p .wr ctrl with
  | true, false, true, false => .memRead
  | true, false, false, true => .memWrite
  | false, true, true, false => .ioRead
  | false, true, false, true => .ioWrite
  | _, _, _, _ => .none

/-- A read cycle, in which a memory or a device drives D0..D7 (R45, R46). -/
def isReadCycle : CycleKind → Bool
  | .memRead => true
  | .ioRead => true
  | _ => false

/-- The kind of the cycle a state records. -/
def kindOf : BusCycle → CycleKind
  | .idle => .none
  | .memRead _ _ => .memRead
  | .memWrite => .memWrite
  | .ioRead => .ioRead
  | .ioWrite => .ioWrite

end Sys2Proof.Machine
end

