-- ==== Sys2Proof/Machine/Bus.lean ====
section
/-! DEFINITION. The Z80 bus: the chips' registers by bank, the discrete lines' levels, the drivers of every expander-bank
line and the level they give it (R38 to R44), and the bus cycle the levels make (R45, R46). Byte by byte: bit `i` of a byte
is line `i` of a bank. -/

namespace Sys2Proof.Machine

/-! ## Expander registers by place -/

/-- The registers of a chip (R37). -/
def chipRegs (e : Expanders) : ChipId → ChipRegs
  | .chip0 => e.chip0
  | .chip1 => e.chip1
  | .chip2 => e.chip2

/-- The expanders with one chip's registers replaced. -/
def withChip (e : Expanders) (c : ChipId) (r : ChipRegs) : Expanders :=
  match c with
  | .chip0 => { e with chip0 := r }
  | .chip1 => { e with chip1 := r }
  | .chip2 => { e with chip2 := r }

/-- The registers of a bank of a chip. -/
def portRegs (r : ChipRegs) : Bank → BankRegs
  | .portA => r.bankA
  | .portB => r.bankB

/-- A chip with one bank's registers replaced. -/
def withPort (r : ChipRegs) (k : Bank) (x : BankRegs) : ChipRegs :=
  match k with
  | .portA => { r with bankA := x }
  | .portB => { r with bankB := x }

/-- The registers `E[c][b]` (R37). -/
def bankRegs (e : Expanders) (id : BankId) : BankRegs := portRegs (chipRegs e id.chip) id.bank

/-- A chip with one register written (R37). -/
def writeChip (r : ChipRegs) (reg : Reg) (v : Byte) : ChipRegs :=
  match reg with
  | .iodir k => withPort r k { portRegs r k with iodir := v }
  | .ipol k => withPort r k { portRegs r k with ipol := v }
  | .iocon => { r with iocon := v }
  | .gppu k => withPort r k { portRegs r k with gppu := v }
  | .olat k => withPort r k { portRegs r k with olat := v }

/-- Whether a chip answers a transfer addressed to chip `c`: chip `c` itself, and every chip whose address decoding is off
(R167, R361). -/
def answers (p : Params) (e : Expanders) (c : ChipId) (self : ChipId) : Bool :=
  chipPresent p.numChips self && (self == c || !decodesAddress (chipRegs e self).iocon)

/-- One chip's part in a completed write addressed to chip `c`. -/
def writeSelf (p : Params) (e : Expanders) (c : ChipId) (reg : Reg) (v : Byte) (self : ChipId) : ChipRegs :=
  if answers p e c self then writeChip (chipRegs e self) reg v else chipRegs e self

/-- A completed register write (R125, R167): every chip that answers takes the byte. -/
def writeReg (p : Params) (e : Expanders) (c : ChipId) (reg : Reg) (v : Byte) : Expanders where
  chip0 := writeSelf p e c reg v .chip0
  chip1 := writeSelf p e c reg v .chip1
  chip2 := writeSelf p e c reg v .chip2

/-- A failed register write: register `reg` of chip `c` holds any value, and no other register changes (R175). -/
def failReg (e : Expanders) (c : ChipId) (reg : Reg) (v : Byte) : Expanders :=
  withChip e c (writeChip (chipRegs e c) reg v)

/-- Exactly one chip answers a transfer addressed to chip `c`. -/
def oneAnswers (p : Params) (e : Expanders) (c : ChipId) : Bool :=
  ((chipsOf p.numChips).filter (answers p e c)).length == 1

/-! ## Discrete lines -/

/-- The level of a discrete line (R42): the pin's, the pull-up's, or any value. No other party drives it (R40). -/
def lineLevel (s : State) (d : Draw) (l : Line) : Bool :=
  match (ofLine s.lines l).dir with
  | .output => (ofLine s.lines l).out
  | .input => (ofLine s.lines l).pullUp || ofLine d.lineFloat l

/-- A discrete line is Active (R24). -/
def lineActive (s : State) (d : Draw) (l : Line) : Bool :=
  lineLevel s d l == activeLevel s.params (lineSignal l)

/-- A line is asserted (R34). -/
def lineAsserted (s : State) (l : Line) : Bool :=
  ofLine s.lines l == { ofLine s.lines l with dir := .output, out := activeLevel s.params (lineSignal l) }

/-- A line is released (R34); an active-high line is released by driving it Inactive (R172, log 18). -/
def lineReleased (s : State) (l : Line) : Bool :=
  if activeLevel s.params (lineSignal l) then
    ofLine s.lines l == { ofLine s.lines l with dir := .output, out := false }
  else (ofLine s.lines l).dir == .input

/-! ## Drivers -/

/-- The bits the block drives on a bank (R38, R39). -/
def blockDrive (s : State) (id : BankId) : Byte := outputBits s.params (bankRegs s.chips id).iodir

/-- The lines of a bank that the CPU may drive while it is not granted (R40, R41). -/
def cpuOwnMask (p : Params) (id : BankId) : Byte :=
  if id = bankOf p .addrLo ∨ id = bankOf p .addrHi ∨ id = bankOf p .data then 0xFF#8
  else if id = bankOf p .ctrl then strobeMask p
  else 0#8

/-- The lines of a bank that the CPU always drives: BUSAK and M1 (R40, R41). -/
def cpuAlwaysMask (p : Params) (id : BankId) : Byte :=
  if id = bankOf p .ctrl then maskOf p .busak ||| maskOf p .m1 else 0#8

/-- The lines of a bank that a party other than the block and the memory drives: the CPU's as R41 says, and the lines
about which nothing is known (spares, chip 2; R40) as the draw says. -/
def outsideDrive (s : State) (d : Draw) (id : BankId) : Byte :=
  let own := cpuOwnMask s.params id
  let always := cpuAlwaysMask s.params id
  always ||| ((ofBank d.banks id).drive &&& ~~~always &&& (if s.cpu.granted then ~~~own else 0xFF#8))

/-- The levels that party drives: any, but BUSAK, which is Active exactly while the CPU is granted (R41). -/
def outsideLevel (s : State) (d : Draw) (id : BankId) : Byte :=
  let drawn := (ofBank d.banks id).level
  if id = bankOf s.params .ctrl then
    (drawn &&& ~~~maskOf s.params .busak) |||
      (if s.cpu.granted == activeLevel s.params .busak then maskOf s.params .busak else 0#8)
  else drawn

/-! ## Levels -/

/-- The lines with two or more drivers, of the block's, the outside's and the memory's drive bits (R43). -/
def contended (block outside memory : Byte) : Byte :=
  (block &&& outside) ||| (block &&& memory) ||| (outside &&& memory)

/-- The levels of a bank's lines (R42): any value where drivers meet, the driver's level where there is one, and else the
pull-up's 1 or any value. -/
def resolve (block blockLevel outside outsideLevel memory memoryLevel pullUp float : Byte) : Byte :=
  let clash := contended block outside memory
  let driven := block ||| outside ||| memory
  (clash &&& float) |||
    (~~~clash &&& ((block &&& blockLevel) ||| (outside &&& outsideLevel) ||| (memory &&& memoryLevel))) |||
    (~~~driven &&& (pullUp ||| float))

/-- The levels of a bank with given outside and memory drives. -/
def levelsWith (s : State) (d : Draw) (id : BankId) (outside memory memoryLevel : Byte) : Byte :=
  resolve (blockDrive s id) (bankRegs s.chips id).olat outside (outsideLevel s d id) memory memoryLevel
    (bankRegs s.chips id).gppu (ofBank d.banks id).float

/-- The levels of a bank that no memory or device drives. -/
def plainLevels (s : State) (d : Draw) (id : BankId) : Byte :=
  levelsWith s d id (outsideDrive s d id) 0#8 0#8

/-- The levels of the control bank. -/
def ctrlLevels (s : State) (d : Draw) : Byte := plainLevels s d (bankOf s.params .ctrl)

/-- The address on A15..A0 (R40). -/
def busAddress (s : State) (d : Draw) : Addr :=
  addrOf (plainLevels s d (bankOf s.params .addrHi)) (plainLevels s d (bankOf s.params .addrLo))

/-- The block drives MREQ and RD both, so that no cycle of the CPU's own can follow another on them (R45). -/
def holdsReadStrobes (s : State) : Bool := memRdMask s.params &&& ~~~blockDrive s (bankOf s.params .ctrl) == 0#8

/-- The bus cycle the strobe levels make (R45, R46). -/
def busKind (s : State) (d : Draw) : CycleKind := cycleKind s.params (ctrlLevels s d)

/-- What the outside drives on D0..D7. In a read cycle of its own, with no strobe driven by the block, the CPU reads the
data lines and does not drive them. DEDUCED (93_implementation_defined.md item 4, log 6). -/
def dataOutside (s : State) (d : Draw) : Byte :=
  if isReadCycle (busKind s d) ∧ blockDrive s (bankOf s.params .ctrl) &&& strobeMask s.params = 0#8 then 0#8
  else outsideDrive s d (bankOf s.params .data)

/-- The lines of D0..D7 a memory or device drives (R45, R46). -/
def memoryDrive (s : State) (d : Draw) : Byte := if isReadCycle (busKind s d) then 0xFF#8 else 0#8

/-! ## Memory as a list of cells -/

/-- The byte at an address; `none` when nothing has determined it (R51, log 13). -/
def memRead (m : List Host.Cell) (a : Nat) : Option Byte :=
  match m with
  | [] => none
  | c :: rest => if c.1 = a then some c.2 else memRead rest a

/-- The memory with the byte at an address written, in the canonical form: addresses strictly rising. -/
def memWrite (m : List Host.Cell) (a : Nat) (v : Byte) : List Host.Cell :=
  match m with
  | [] => [(a, v)]
  | c :: rest =>
    if a < c.1 then (a, v) :: c :: rest
    else if a = c.1 then (a, v) :: rest
    else c :: memWrite rest a v

/-- The canonical form of the memory: addresses strictly rising, within the 16-bit space (R80). An unlisted address reads
as nothing, so no entry can repeat that. -/
abbrev Memory.wf (m : List Host.Cell) : Prop :=
  m.Pairwise (fun x y => x.1 < y.1) ∧ ∀ c ∈ m, c.1 < 65536

/-- Several bytes stored, in order. -/
def memWriteAll (m : List Host.Cell) : List (Addr × Byte) → List Host.Cell
  | [] => m
  | x :: xs => memWriteAll (memWrite m x.1.toNat x.2) xs

/-- The byte the memory answers for an address in a read cycle (R45): under `SimMem` the byte there, any byte when nothing
has determined it; under `Free` any byte, fixed for the cycle; another address begins another answer (log 14). -/
def memoryByte (s : State) (d : Draw) (a : Addr) : Byte :=
  match s.params.oracle with
  | .simMem =>
    match memRead s.mem a.toNat with
    | some v => v
    | none => d.busByte
  | .free =>
    match s.cycle with
    | .memRead a0 v => if a0 = a then v else d.busByte
    | _ => d.busByte

/-- What the memory or device answers on D0..D7 (R45, R46). -/
def answerByte (s : State) (d : Draw) : Byte :=
  match busKind s d with
  | .memRead => memoryByte s d (busAddress s d)
  | _ => d.busByte

/-- The levels of D0..D7. -/
def dataLevels (s : State) (d : Draw) : Byte :=
  levelsWith s d (bankOf s.params .data) (dataOutside s d) (memoryDrive s d) (answerByte s d)

/-- The levels of a bank (R42). -/
def bankLevels (s : State) (d : Draw) (id : BankId) : Byte :=
  if id = bankOf s.params .data then dataLevels s d else plainLevels s d id

/-- The lines of a bank with two or more drivers (R43). -/
def bankContention (s : State) (d : Draw) (id : BankId) : Byte :=
  if id = bankOf s.params .data then contended (blockDrive s id) (dataOutside s d) (memoryDrive s d)
  else contended (blockDrive s id) (outsideDrive s d id) 0#8

/-- The Contention faults after a port action, one event per bank with such lines (R43). -/
def contentionEvents (s : State) (d : Draw) : List Event :=
  (banksOf s.params.numChips).filterMap fun id =>
    if bankContention s d id = 0#8 then none else some (.contention id (bankContention s d id))

/-- What a read of the input latch of a bank returns (R44). When several chips answer, which R167's address decoding
rules out after `configure`, the byte is a free value (log 15). -/
def gpioByte (s : State) (d : Draw) (id : BankId) : Byte :=
  if oneAnswers s.params s.chips id.chip then bankLevels s d id ^^^ (bankRegs s.chips id).ipol else d.spiByte

end Sys2Proof.Machine
end

