-- ==== Sys2Proof/Machine/Ops.lean ====
section
/-! DEFINITION. The named operations: updates of the state, the environment's moves around a port action (R6, R52), the
port actions themselves (R23, R125, R135), raising an error and returning a response (R329, R331), and the shape every
command and every micro-op shares. -/

namespace Sys2Proof.Machine

/-! ## Updates of the state -/

/-- An entry added to the event history (R47). -/
def record (e : Event) (s : State) : State := { s with history := s.history ++ [e] }

/-- A new sequencer record. -/
def setSeq (q : Option Sequencer) (s : State) : State := { s with seq := q }

/-- A change of the sequencer record in progress, if there is one. -/
def modifySeq (f : Sequencer → Sequencer) (s : State) : State := { s with seq := s.seq.map f }

/-- The step index advances by one port action (R35). -/
def tick (s : State) : State := modifySeq (fun q => { q with k := q.k + 1 }) s

/-- A bank joins `touched` (R35, R231). -/
def touch (id : BankId) (s : State) : State :=
  modifySeq (fun q => { q with touched := if q.touched.contains id then q.touched else q.touched ++ [id] }) s

/-- The strobe assert has been attempted (R35, R231). -/
def markStrobed (s : State) : State := modifySeq (fun q => { q with strobed := true }) s

/-- The first error of a command is the one kept (R25, R329). -/
def noteErr (e : Err) (s : State) : State :=
  modifySeq (fun q => { q with firstErr := some (q.firstErr.getD e) }) s

/-- The response's warn bit is set (R332). -/
def setWarn (s : State) : State := modifySeq (fun q => { q with warn := true }) s

/-- `touched` and `strobed` of a transaction begin empty (R231); inside `singleStep` the step index goes on (R35). -/
def freshTransaction (s : State) : State := modifySeq (fun q => { q with touched := [], strobed := false }) s

/-- `S.configured` written (R31). -/
def setConfigured (v : Bool) (s : State) : State := { s with configured := v }

/-- `S.arb` written (R32). -/
def setArb (a : Arb) (s : State) : State := { s with arb := a }

/-- `S.pending` written (R33). -/
def setPending (v : Option Snapshot) (s : State) : State := { s with pending := v }

/-- One discrete pin written (R34). -/
def setPin (l : Line) (v : LinePin) (s : State) : State := { s with lines := withLine s.lines l v }

/-- The expander registers written (R37). -/
def setChips (e : Expanders) (s : State) : State := { s with chips := e }

/-- The CPU agent's state written (R41). -/
def setCpu (c : Cpu) (s : State) : State := { s with cpu := c }

/-- The memory written (R45). -/
def setMem (m : List Host.Cell) (s : State) : State := { s with mem := m }

/-- The bus cycle in progress written (R45, R46). -/
def setCycle (c : BusCycle) (s : State) : State := { s with cycle := c }

/-- A transfer never completes (R327). -/
def setHung (s : State) : State := { s with hung := true }

/-- What a micro-op returned (log 9). -/
def setUopResult (r : UopResult) (s : State) : State := { s with uopResult := some r }

/-- The response on the port, recorded in the history; `S.seq` is emptied (R35, R47, R118, R240). -/
def respond (w : Reply) (s : State) : State :=
  { s with seq := none, response := some w, history := s.history ++ [.response w] }

/-- The step index of the next port action (R35). -/
def stepIndex (s : State) : Nat :=
  match s.seq with
  | some q => q.k
  | none => 0

/-! ## Draws -/

/-- The environment's draw `i` port actions from now (log 4). -/
def drawAt (s : State) (i : Nat) : Draw :=
  match s.script[i]? with
  | some d => d
  | none => Config.freeDraw (s.draws + (i - s.script.length))

/-- The state with the next draw used up. -/
def dropDraw (s : State) : State :=
  match s.script with
  | [] => { s with draws := s.draws + 1 }
  | _ :: rest => { s with script := rest }

/-! ## The environment around a port action -/

/-- What the CPU makes of the RESET line it sees (R52): Active takes the grant away and puts the CPU in reset; Inactive
after Active makes address 0 its next fetch. -/
def resetSeen (active : Bool) (c : Cpu) : Cpu :=
  if active then ⟨false, c.fetchFromZero, true⟩ else ⟨c.granted, c.fetchFromZero || c.inReset, false⟩

/-- The CPU sees the RESET line at its level (R42, R52), whatever changed it: a port action, a draw of a floating line, or a
block reset. -/
def seeReset (d : Draw) (s : State) : State := setCpu (resetSeen (lineActive s d .reset) s.cpu) s

/-- Whether the CPU is granted after its move (R52): not in reset; else the CPU may take the change BUSRQ allows. -/
def nextGranted (d : Draw) (s : State) : Bool :=
  if lineActive s d .reset then false
  else if d.cpuMove then lineActive s d .busrq
  else s.cpu.granted

/-- The CPU can fetch an instruction: it has the bus and is not in reset (R41, R52). -/
def mayFetch (c : Cpu) : Bool := !c.granted && !c.inReset

/-- The CPU's moves before a port action (R52), in any order R52 admits: a fetch may come before RESET is seen, after
it, or after the grant changes. The moves are the RESET line, the grant, the CPU's next fetch, its own stores
while it is not granted, and the end of a bus cycle that the block does not hold (R45). -/
def cpuMoves (d : Draw) (s : State) : State :=
  let seen := resetSeen (lineActive s d .reset) s.cpu
  let granted := nextGranted d s
  let moved := { seen with granted := granted }
  let fetched := d.cpuFetch && (mayFetch s.cpu || mayFetch seen || mayFetch moved)
  { s with
    cpu := { moved with fetchFromZero := seen.fetchFromZero && !fetched }
    mem := if s.cpu.granted && granted then s.mem else memWriteAll s.mem d.cpuStores
    cycle := if d.cycleEnds && !holdsReadStrobes s then .idle else s.cycle }

/-- What is on the bus between two port actions: the registers as they are, and a CPU that may drive its lines unless it was
granted all the while (R41). -/
def busBetween (d : Draw) (s : State) : State :=
  let moved := cpuMoves d s
  setCpu { moved.cpu with granted := s.cpu.granted && moved.cpu.granted } moved

/-- The draw as it stands between two port actions. -/
def drawBetween (d : Draw) : Draw := { d with banks := d.between }

/-- The environment's part before a port action: the CPU's moves, and a Contention fault as soon as the CPU drives a line that
the block drives (R43, R371, log 38). -/
def envMove (d : Draw) (s : State) : State :=
  let moved := cpuMoves d s
  { moved with history := moved.history ++ contentionEvents (busBetween d s) (drawBetween d) }

/-- The bus cycle in progress at the given levels (R45, R46). -/
def cycleNow (d : Draw) (s : State) : BusCycle :=
  match busKind s d with
  | .none => .idle
  | .memRead => .memRead (busAddress s d) (memoryByte s d (busAddress s d))
  | .memWrite => .memWrite
  | .ioRead => .ioRead
  | .ioWrite => .ioWrite

/-- The memory after a port action (R45): a write cycle in progress stores the data lines, and a read cycle under `SimMem`
determines a byte that nothing had determined (log 13). -/
def memoryNow (d : Draw) (s : State) : List Host.Cell :=
  match busKind s d with
  | .memWrite => memWrite s.mem (busAddress s d).toNat (dataLevels s d)
  | .memRead =>
    match s.params.oracle, memRead s.mem (busAddress s d).toNat with
    | .simMem, none => memWrite s.mem (busAddress s d).toNat d.busByte
    | _, _ => s.mem
  | _ => s.mem

/-- The bus after a port action: Contention recorded (R43), memory and cycle as the levels say (R45). The spec does not order
the history's entries of one port action: the action stands first, then Contention bank by bank, then a bus cycle; Contention
from before the action stands before it. DESIGN CHOICE (log 37). -/
def observeBus (d : Draw) (s : State) : State :=
  { s with
    history := s.history ++ contentionEvents s d
    mem := memoryNow d s
    cycle := cycleNow d s }

/-- One port action `act` with the environment around it, under the draw `d` (R6, R42, R52). -/
def portAction (d : Draw) (act : State → State) (s : State) : State :=
  let moved := envMove d s
  observeBus d (seeReset d (tick (act moved)))

/-! ## Results -/

/-- How an operation ends: with a result, with an error (R25), or with a transfer that never completes (R327). -/
inductive Res (α : Type) where
  | ok (a : α)
  | failed (e : Err)
  | hung
  deriving DecidableEq, Repr

/-- An operation of the block. -/
abbrev Op (α : Type) := State → Res α × State

/-- An operation and then another one on its result; an error or a hang ends the whole. -/
def andThen {α β : Type} (o : Op α) (f : α → Op β) : Op β := fun s =>
  match o s with
  | (.ok a, s1) => f a s1
  | (.failed e, s1) => (.failed e, s1)
  | (.hung, s1) => (.hung, s1)

/-- A result without an action. -/
def result {α : Type} (a : α) : Op α := fun s => (.ok a, s)

/-- A change of the state that cannot fail. -/
def act (f : State → State) : Op Unit := fun s => (.ok (), f s)

/-- An error raised (R23, R329): recorded as the first if none is, and the operation ends with it. -/
def raise {α : Type} (e : Err) : Op α := fun s => (.failed e, noteErr e s)

/-- Operations attempted one after another whatever failed before (R231, R329): the first error is the result. -/
def attemptAll : List (Op Unit) → Op Unit
  | [], s => (.ok (), s)
  | o :: os, s =>
    match o s with
    | (.hung, s1) => (.hung, s1)
    | (.ok _, s1) => attemptAll os s1
    | (.failed e, s1) =>
      match attemptAll os s1 with
      | (.hung, s2) => (.hung, s2)
      | (_, s2) => (.failed e, s2)

/-- Operations one after another until one fails (R167). -/
def inOrder : List (Op Unit) → Op Unit
  | [], s => (.ok (), s)
  | o :: os, s => andThen o (fun _ => inOrder os) s

/-- An operation with a cleanup that runs on success and on error (R231, R329); the first error is the result. -/
def withCleanup {α : Type} (o : Op α) (cleanup : Op Unit) : Op α := fun s =>
  match o s with
  | (.hung, s1) => (.hung, s1)
  | (.ok a, s1) =>
    match cleanup s1 with
    | (.hung, s2) => (.hung, s2)
    | (.ok _, s2) => (.ok a, s2)
    | (.failed e, s2) => (.failed e, s2)
  | (.failed e, s1) =>
    match cleanup s1 with
    | (.hung, s2) => (.hung, s2)
    | (_, s2) => (.failed e, s2)

/-- An operation with a cleanup that runs only on error (R236, R287), its own result ignored. -/
def onError {α : Type} (o : Op α) (cleanup : Op Unit) : Op α := fun s =>
  match o s with
  | (.hung, s1) => (.hung, s1)
  | (.ok a, s1) => (.ok a, s1)
  | (.failed e, s1) =>
    match cleanup s1 with
    | (.hung, s2) => (.hung, s2)
    | (_, s2) => (.failed e, s2)

/-! ## Transfers (R125, R175) -/

/-- `XferW(c, reg, v)`: the register takes the byte, or on a failure any value; a failed transfer raises
`TransportError` with its step index (R121). A transfer that never completes leaves its register as it was. DESIGN CHOICE
(log 8). -/
def xferW (c : ChipId) (reg : Reg) (v : Byte) : Op Unit := fun s =>
  let d := drawAt s 0
  let s0 := dropDraw s
  let r := regAddr s.params reg
  match d.xfer with
  | .ok =>
    (.ok (), portAction d (fun m => setChips (writeReg m.params m.chips c reg v) (record (.xferW c r v true) m)) s0)
  | .err x =>
    let e := Err.transport c r (stepIndex s)
    (.failed e,
      noteErr e (portAction d (fun m => setChips (failReg m.chips c reg x) (record (.xferW c r v false) m)) s0))
  | .hang => (.hung, setHung (envMove d s0))

/-- `XferR(c, GPIO_b)`: the pin levels (R44); a failed read returns no value and changes no register (R175). -/
def xferR (id : BankId) : Op Byte := fun s =>
  let d := drawAt s 0
  let s0 := dropDraw s
  let r := gpioAddr s.params id.bank
  match d.xfer with
  | .ok =>
    let v := gpioByte (envMove d s0) d id
    (.ok v, portAction d (record (.xferR id.chip r (some v))) s0)
  | .err _ =>
    let e := Err.transport id.chip r (stepIndex s)
    (.failed e, noteErr e (portAction d (record (.xferR id.chip r none)) s0))
  | .hang => (.hung, setHung (envMove d s0))

/-! ## GPIO actions (R135) -/

/-- The host pin of a line (R16). -/
def pinOf (s : State) (l : Line) : Nat := gpioPin s.params l

/-- `GpioW(P_GPIO_PIN(l), level)`. -/
def gpioWrite (l : Line) (level : Bool) (s : State) : State :=
  portAction (drawAt s 0)
    (fun m => setPin l { ofLine m.lines l with out := level } (record (.gpioW (pinOf m l) level) m)) (dropDraw s)

/-- `GpioDir(P_GPIO_PIN(l), dir)`. -/
def gpioDir (l : Line) (dir : Dir) (s : State) : State :=
  portAction (drawAt s 0)
    (fun m => setPin l { ofLine m.lines l with dir := dir } (record (.gpioDir (pinOf m l) dir) m)) (dropDraw s)

/-- `GpioPU(P_GPIO_PIN(l), on)`. -/
def gpioPullUp (l : Line) (on : Bool) (s : State) : State :=
  portAction (drawAt s 0)
    (fun m => setPin l { ofLine m.lines l with pullUp := on } (record (.gpioPU (pinOf m l) on) m)) (dropDraw s)

/-- `GpioR(P_GPIO_PIN(l))`: the resolved level of the line. No command performs it; it completes the contract of R135. -/
def gpioRead (l : Line) (s : State) : Bool × State :=
  let d := drawAt s 0
  let v := lineLevel (envMove d (dropDraw s)) d l
  (v, portAction d (fun m => record (.gpioR (pinOf m l) v) m) (dropDraw s))

/-! ## Commands and micro-ops -/

/-- The sequencer record of an instruction that is being accepted (R35). -/
def freshSeq (i : Instr) : Sequencer where
  cmd := i
  k := 0
  touched := []
  strobed := false
  firstErr := none
  warn := false

/-- The warn bit of the command in progress (R332). -/
def warnBit (s : State) : Bool :=
  match s.seq with
  | some q => q.warn
  | none => false

/-- The error a response reports: the first one of the command (R328, R329). -/
def reportedErr (e : Err) (s : State) : Err :=
  match s.seq with
  | some q => q.firstErr.getD e
  | none => e

/-- The end of a command: the response with its result or with its error (R118, R329); no response while a transfer has
not completed (R327). -/
def finish (r : Res (BitVec 16 × Byte)) (s : State) : State :=
  match r with
  | .ok (d16, d8) => respond (okReply (warnBit s) d16 d8) s
  | .failed e => respond (errReply (warnBit s) (reportedErr e s)) s
  | .hung => s

/-- The checks before any port action that a command may ask for (R328): `NotConfigured`, then `BusNotOwned`. -/
def precheck {α : Type} (needsOwned : Bool) (o : Op α) : Op α := fun s =>
  if s.configured = false then raise .notConfigured s
  else if needsOwned = true ∧ s.arb = .released then raise .busNotOwned s
  else o s

/-- One command from its acceptance to its response (R110), refused under a registry that fails its checks (R327). -/
def command (i : Instr) (body : Op (BitVec 16 × Byte)) (s : State) : Host.Outcome State Fault Refusal :=
  if registryOk s.params then
    let out := body (setSeq (some (freshSeq i)) s)
    .next (finish out.1 out.2)
  else .refused .registryRejected

/-- No result bytes: `d16 = 0` and `d8 = 0` (R120). -/
def noData (o : Op Unit) : Op (BitVec 16 × Byte) := andThen o fun _ => result (0#16, 0#8)

/-- A byte in `d8` (R120). -/
def inD8 (o : Op Byte) : Op (BitVec 16 × Byte) := andThen o fun v => result (0#16, v)

/-- An address in `d16` (R120). -/
def inD16 (o : Op Addr) : Op (BitVec 16 × Byte) := andThen o fun a => result (a, 0#8)

/-- What the sequencer keeps of a micro-op's result (log 9). -/
def uopResultOf : Res UopResult → State → State
  | .ok r, s => setUopResult r s
  | .failed e, s => setUopResult (.error e) s
  | .hung, s => s

/-- One micro-op given to the sequencer (R122): inside the command in progress if there is one, and else with a sequencer
record of its own, which ends with it (log 9, log 25). -/
def microOp (i : Instr) (body : Op UopResult) (s : State) : Host.Outcome State Fault Refusal :=
  if registryOk s.params then
    match s.seq with
    | some _ =>
      let out := body s
      .next (uopResultOf out.1 out.2)
    | none =>
      let out := body (setSeq (some (freshSeq i)) s)
      .next (uopResultOf out.1 (if out.2.hung then out.2 else setSeq none out.2))
  else .refused .registryRejected

/-! ## The ports -/

/-- The next command word (R110, R137): taken when no command is in progress and four bytes are there, the first the least
significant. -/
def fetchCommand (s : State) : Option (Word × State) :=
  match s.seq, s.cmdPort with
  | none, b0 :: b1 :: b2 :: b3 :: rest => some (wordOfBytes b0 b1 b2 b3, { s with cmdPort := rest })
  | _, _ => none

/-- The micro-op word given to the sequencer is taken (R122). -/
def takeUop (s : State) : State := { s with uopPort := none }

/-- An illegal command word (R113, R114, R116): the `IllegalCommand` response with `d8 = op`, no port action and no state
change. -/
def rejectCommand (w : Word) (s : State) : Host.Outcome State Fault Refusal :=
  if registryOk s.params then .next (respond (errReply false (.illegalCommand (opField w))) s)
  else .refused .registryRejected

/-- The caller has the response to its last command: no command waits, is in progress or is stuck (R110, R377). -/
def ready (s : State) : Bool := s.seq == none && !s.hung && s.cmdPort.isEmpty && s.uopPort == none

/-- The caller's one move (R378): a command word, only after the last response. -/
def issue (w : Word) (s : State) : State := if ready s then { s with cmdPort := wordBytes w } else s

/-- A command word put where the next step takes it, whatever the block was doing. No agent's move: it places a test's
instruction (log 33). -/
def placeCommand (w : Word) (s : State) : State :=
  { s with cmdPort := wordBytes w, uopPort := none, seq := none, hung := false }

/-- A micro-op word put where the next step takes it. No agent's move either: only the sequencer generates micro-ops, inside a
command (R122, R378, log 9). -/
def placeMicroOp (w : Word) (s : State) : State := { s with uopPort := some w, hung := false }

/-! ## Block reset -/

/-- Block reset (R360): the block state takes its reset values; the expander registers, the CPU and memory stay, no port
action is performed, and a new run begins with an empty history. The levels last written to the pins and their pull-ups,
which R51 and R362 leave open, stay as they were. DESIGN CHOICE (log 11). No instruction performs it (log 33). -/
def blockReset (s : State) : State :=
  { s with
    configured := false
    arb := .released
    pending := none
    lines :=
      ⟨{ s.lines.busrq with dir := .input }, { s.lines.wait with dir := .input }, { s.lines.reset with dir := .input },
        { s.lines.int with dir := .input }, { s.lines.nmi with dir := .input }⟩
    seq := none
    history := []
    cmdPort := []
    response := none
    uopPort := none
    uopResult := none
    hung := false }

end Sys2Proof.Machine
end

