-- ==== Sys2Proof/Machine/BankDriver.lean ====
section
/-! DEFINITION. The Expander Bank Driver (40_bank_driver.md): readBank, writeBank, restoreBank, the two discrete-line
actions, and configure; with the meanings of `CONFIGURE` and of the five micro-ops. -/

namespace Sys2Proof.Machine

/-! ## Operations -/

/-- A register write to a bank, which touches it (R35). -/
def writeBankReg (id : BankId) (reg : Bank → Reg) (v : Byte) : Op Unit := fun s =>
  xferW id.chip (reg id.bank) v (touch id s)

/-- `readBank(c, b)` (R168): the bank all-input, then the read. -/
def readBank (id : BankId) : Op Byte := fun s =>
  andThen (xferW id.chip (.iodir id.bank) (allIn s.params)) (fun _ => xferR id) (touch id s)

/-- `writeBank(c, b, value, m)` (R169), in the order `P_WRITE_ORDER`. -/
def writeBank (id : BankId) (value mask : Byte) : Op Unit := fun s =>
  let latch := xferW id.chip (.olat id.bank) value
  let direction := xferW id.chip (.iodir id.bank) (dirVal s.params mask)
  match s.params.writeOrder with
  | .latchFirst => andThen latch (fun _ => direction) (touch id s)
  | .dirFirst => andThen direction (fun _ => latch) (touch id s)

/-- `restoreBank(c, b)` (R170); its transfer touches the bank (R35). -/
def restoreBank (id : BankId) : Op Unit := fun s => writeBankReg id .iodir (allIn s.params) s

/-- `lineAssert(l)` (R171): the level, then the direction. -/
def lineAssert (l : Line) (s : State) : State :=
  gpioDir l .output (gpioWrite l (activeLevel s.params (lineSignal l)) s)

/-- `lineRelease(l)` (R172): the pin becomes an input. An active-high line would float Active, so it is driven Inactive
instead (R172, log 18). -/
def lineRelease (l : Line) (s : State) : State :=
  if activeLevel s.params (lineSignal l) then gpioDir l .output (gpioWrite l false s)
  else gpioDir l .input s

/-! ## configure (R167) -/

/-- The seven transfers of one chip. -/
def configureChip (p : Params) (c : ChipId) : List (Op Unit) :=
  [ xferW c .iocon ioconValue,
    writeBankReg ⟨c, .portA⟩ .iodir (allIn p), writeBankReg ⟨c, .portB⟩ .iodir (allIn p),
    writeBankReg ⟨c, .portA⟩ .ipol 0x00#8, writeBankReg ⟨c, .portB⟩ .ipol 0x00#8,
    writeBankReg ⟨c, .portA⟩ .gppu 0xFF#8, writeBankReg ⟨c, .portB⟩ .gppu 0xFF#8 ]

/-- All transfers of `configure`, the broadcast first. -/
def configureTransfers (p : Params) : List (Op Unit) :=
  xferW .chip0 .iocon ioconValue :: (chipsOf p.numChips).flatMap (configureChip p)

/-- The pull-up of one line turned on and the line released. -/
def configureLine (l : Line) (s : State) : State := lineRelease l (gpioPullUp l true s)

/-- The discrete lines of `configure`, in order. -/
def configureLines : List Line → State → State
  | [], s => s
  | l :: ls, s => configureLines ls (configureLine l s)

/-- `configure()` (R167): it stops at the first failed transfer, with no cleanup (R329). -/
def configureOp : Op Unit := fun s =>
  andThen (inOrder (configureTransfers s.params))
    (fun _ => act fun m => setConfigured true (configureLines allLines m))
    (setArb .released (setConfigured false s))

/-! ## Meanings -/

/-- `CONFIGURE` (R167). It has no precondition (R326). -/
def execConfigure (s : State) : Host.Outcome State Fault Refusal :=
  command .configure (noData configureOp) s

/-- The bank a micro-op's chip and bank fields name; none for an absent chip (R122, R123). -/
def uopBankId (s : State) (c : BitVec 2) (k : Bank) : Option BankId :=
  match chipOfCode c with
  | some chip => if chipPresent s.params.numChips chip then some ⟨chip, k⟩ else none
  | none => none

/-- `READ_BANK` (R168): the byte read is what the micro-op returns. -/
def execReadBank (c : BitVec 2) (k : Bank) (s : State) : Host.Outcome State Fault Refusal :=
  match uopBankId s c k with
  | some id => microOp (.readBank c k) (andThen (readBank id) fun v => result (.value v)) s
  | none => .refused .microOpNotGenerated

/-- `WRITE_BANK` (R169). -/
def execWriteBank (c : BitVec 2) (k : Bank) (value mask : Byte) (s : State) : Host.Outcome State Fault Refusal :=
  match uopBankId s c k with
  | some id => microOp (.writeBank c k value mask) (andThen (writeBank id value mask) fun _ => result .done) s
  | none => .refused .microOpNotGenerated

/-- `RESTORE_BANK` (R170). -/
def execRestoreBank (c : BitVec 2) (k : Bank) (s : State) : Host.Outcome State Fault Refusal :=
  match uopBankId s c k with
  | some id => microOp (.restoreBank c k) (andThen (restoreBank id) fun _ => result .done) s
  | none => .refused .microOpNotGenerated

/-- `LINE_ASSERT` (R171). -/
def execLineAssert (code : BitVec 3) (s : State) : Host.Outcome State Fault Refusal :=
  match lineOfCode code with
  | some l => microOp (.lineAssert code) (andThen (act (lineAssert l)) fun _ => result .done) s
  | none => .refused .microOpNotGenerated

/-- `LINE_RELEASE` (R172). -/
def execLineRelease (code : BitVec 3) (s : State) : Host.Outcome State Fault Refusal :=
  match lineOfCode code with
  | some l => microOp (.lineRelease code) (andThen (act (lineRelease l)) fun _ => result .done) s
  | none => .refused .microOpNotGenerated

end Sys2Proof.Machine
end

