-- ==== Sys2Proof/Machine/Arbiter.lean ====
section
/-! DEFINITION. The Bus Arbiter (41_arbiter.md): grab and release, and the meanings of `GRAB` and `RELEASE`. -/

namespace Sys2Proof.Machine

/-- The polls of `grab` (R201): at most `n` reads of the control bank, until BUSAK is Active. -/
def grabPolls : Nat → Op Bool
  | 0, s => (.ok false, s)
  | n + 1, s =>
    andThen (readBank (bankOf s.params .ctrl))
      (fun v => if busakActive s.params v then result true else grabPolls n) s

/-- `grab()` (R201 to R205), without its `NotConfigured` check. -/
def grabOp : Op Unit := fun s =>
  match s.arb with
  | .owned => (.ok (), record .warnAlreadyOwned (setWarn s))
  | .released =>
    match grabPolls s.params.grabPollLimit (lineAssert .busrq s) with
    | (.ok true, s1) => (.ok (), setArb .owned s1)
    | (.ok false, s1) => raise .busGrantTimeout (lineRelease .busrq s1)
    | (.failed e, s1) =>
      match restoreBank (bankOf s1.params .ctrl) s1 with
      | (.hung, s2) => (.hung, s2)
      | (_, s2) => (.failed e, lineRelease .busrq s2)
    | (.hung, s1) => (.hung, s1)

/-- The bus-facing banks in the order they are restored (R206, R231). -/
def restoreOrder (p : Params) : List BankId :=
  [bankOf p .ctrl, bankOf p .data, bankOf p .addrHi, bankOf p .addrLo]

/-- `release()` (R206 to R208), without its `NotConfigured` check: `Released` first, every restore attempted, BUSRQ
released last and whatever failed. -/
def releaseOp : Op Unit := fun s =>
  match attemptAll ((restoreOrder s.params).map restoreBank) (setArb .released s) with
  | (.hung, s1) => (.hung, s1)
  | (r, s1) => (r, lineRelease .busrq s1)

/-- `GRAB` (R201). -/
def execGrab (s : State) : Host.Outcome State Fault Refusal :=
  command .grab (precheck false (noData grabOp)) s

/-- `RELEASE` (R206). -/
def execRelease (s : State) : Host.Outcome State Fault Refusal :=
  command .release (precheck false (noData releaseOp)) s

end Sys2Proof.Machine
end

