-- ==== Sys2Proof/Machine/Transactions.lean ====
section
/-! DEFINITION. The Transaction Engine (42_transactions.md): the four memory and I/O transactions with their guaranteed
cleanup, the passive bus probe, and the meanings of their commands. -/

namespace Sys2Proof.Machine

/-! ## The shared sequence (R231) -/

/-- The bus-facing banks the command has touched, in the order they are restored. -/
def touchedInOrder (s : State) : List BankId :=
  match s.seq with
  | some q => (restoreOrder s.params).filter fun id => q.touched.contains id
  | none => []

/-- Whether the strobe assert has been attempted (R35). -/
def strobedNow (s : State) : Bool :=
  match s.seq with
  | some q => q.strobed
  | none => false

/-- The strobes driven Inactive: `writeBank(Bank(CTRL), ctrlValue([]), strobeMask)`. -/
def deassertStrobes (strobes : Byte) : Op Unit := fun s =>
  writeBank (bankOf s.params .ctrl) (ctrlValue s.params 0#8) strobes s

/-- The cleanup steps: the de-assert if the assert was attempted, then the restores of the touched banks. The de-assert
touches no bank that the assert did not, so the list of restores is fixed when the cleanup begins. -/
def transactionCleanup (strobes : Byte) : Op Unit := fun s =>
  attemptAll ((if strobedNow s then [deassertStrobes strobes] else []) ++ (touchedInOrder s).map restoreBank) s

/-- A transaction (R231): forward steps, then the cleanup on success and on error. -/
def transaction {α : Type} (strobes : Byte) (forward : Op α) : Op α := fun s =>
  withCleanup forward (transactionCleanup strobes) (freshTransaction s)

/-- A bus-cycle event, if the transaction is a write (R239). -/
def recordWrite (e : Option Event) : Op Unit :=
  match e with
  | some e => act (record e)
  | none => result ()

/-- The strobe assert (R231), with the event of a write transaction at the port action after which its cycle is first in
progress (R239): the second transfer under `LatchFirst`; under `DirFirst` the first one if its levels already make the
cycle (R366), else the second (log 21). The event follows the Contention entries of that action. DESIGN CHOICE (log 37). -/
def assertStrobes (kind : CycleKind) (strobes : Byte) (event : Option Event) : Op Unit := fun s =>
  let id := bankOf s.params .ctrl
  let s0 := markStrobed s
  match s.params.writeOrder with
  | .latchFirst =>
    andThen (writeBank id (ctrlValue s.params strobes) strobes) (fun _ => recordWrite event) s0
  | .dirFirst =>
    andThen (xferW id.chip (.iodir id.bank) (dirVal s.params strobes))
      (fun _ m =>
        let latch := xferW id.chip (.olat id.bank) (ctrlValue m.params strobes)
        if kindOf m.cycle = kind then andThen (recordWrite event) (fun _ => latch) m
        else andThen latch (fun _ => recordWrite event) m)
      (touch id s0)

/-- A whole-bank drive of a bus-facing bank. -/
def driveBank (n : SignalName) (v : Byte) : Op Unit := fun s => writeBank (bankOf s.params n) v 0xFF#8 s

/-- The read of the data bank, with the event of a read transaction at its `GPIO` read (R239), after the Contention entries of
that action. DESIGN CHOICE (log 37). -/
def readDataBank (event : Byte → Event) : Op Byte := fun s =>
  andThen (readBank (bankOf s.params .data)) (fun v m => (.ok v, record (event v) m)) s

/-! ## The four transactions -/

/-- `readMemory(address)` (R232), without its preconditions. -/
def readMemoryOp (a : Addr) : Op Byte := fun s =>
  transaction (memRdMask s.params)
    (andThen (driveBank .addrLo (addrLow a)) fun _ =>
      andThen (driveBank .addrHi (addrHigh a)) fun _ =>
        andThen (assertStrobes .memRead (memRdMask s.params) none) fun _ => readDataBank (Event.memRead a)) s

/-- `writeMemory(address, data)` (R233), without its preconditions. -/
def writeMemoryOp (a : Addr) (v : Byte) : Op Unit := fun s =>
  transaction (memWrMask s.params)
    (andThen (driveBank .addrLo (addrLow a)) fun _ =>
      andThen (driveBank .addrHi (addrHigh a)) fun _ =>
        andThen (driveBank .data v) fun _ =>
          assertStrobes .memWrite (memWrMask s.params) (some (.memWrite a v))) s

/-- `readIo(port)` (R234), without its preconditions: ADDR_HI is not touched. -/
def readIoOp (port : Byte) : Op Byte := fun s =>
  transaction (ioRdMask s.params)
    (andThen (driveBank .addrLo port) fun _ =>
      andThen (assertStrobes .ioRead (ioRdMask s.params) none) fun _ => readDataBank (Event.ioRead port)) s

/-- `writeIo(port, data)` (R235), without its preconditions. -/
def writeIoOp (port : Byte) (v : Byte) : Op Unit := fun s =>
  transaction (ioWrMask s.params)
    (andThen (driveBank .addrLo port) fun _ =>
      andThen (driveBank .data v) fun _ =>
        assertStrobes .ioWrite (ioWrMask s.params) (some (.ioWrite port v))) s

/-! ## The passive probe -/

/-- The restores of a probe that failed (R236 to R238): every touched bank, in the order of R231. -/
def probeCleanup : Op Unit := fun s => attemptAll ((touchedInOrder s).map restoreBank) s

/-- `readRawBus(Addr)` (R236). -/
def readRawAddrOp : Op Addr := fun s =>
  onError
    (andThen (readBank (bankOf s.params .addrLo)) fun lo =>
      andThen (readBank (bankOf s.params .addrHi)) fun hi => result (addrOf hi lo))
    probeCleanup (freshTransaction s)

/-- `readRawBus` of one bank (R237, R238). -/
def readRawBankOp (n : SignalName) : Op Byte := fun s =>
  onError (readBank (bankOf s.params n)) probeCleanup (freshTransaction s)

/-! ## Meanings -/

/-- `READ_MEM` (R232). -/
def execReadMem (a : Addr) (s : State) : Host.Outcome State Fault Refusal :=
  command (.readMem a) (precheck true (inD8 (readMemoryOp a))) s

/-- `WRITE_MEM` (R233). -/
def execWriteMem (a : Addr) (v : Byte) (s : State) : Host.Outcome State Fault Refusal :=
  command (.writeMem a v) (precheck true (noData (writeMemoryOp a v))) s

/-- `READ_IO` (R234). -/
def execReadIo (port : Byte) (s : State) : Host.Outcome State Fault Refusal :=
  command (.readIo port) (precheck true (inD8 (readIoOp port))) s

/-- `WRITE_IO` (R235). -/
def execWriteIo (port v : Byte) (s : State) : Host.Outcome State Fault Refusal :=
  command (.writeIo port v) (precheck true (noData (writeIoOp port v))) s

/-- `READ_RAW ADDR` (R236). -/
def execReadRawAddr (s : State) : Host.Outcome State Fault Refusal :=
  command .readRawAddr (precheck false (inD16 readRawAddrOp)) s

/-- `READ_RAW DATA` (R237). -/
def execReadRawData (s : State) : Host.Outcome State Fault Refusal :=
  command .readRawData (precheck false (inD8 (readRawBankOp .data))) s

/-- `READ_RAW CTRL` (R238); the map is `decodeCtrl` of the byte. -/
def execReadRawCtrl (s : State) : Host.Outcome State Fault Refusal :=
  command .readRawCtrl (precheck false (inD8 (readRawBankOp .ctrl))) s

end Sys2Proof.Machine
end

