-- ==== Sys2Proof/Machine/Debug.lean ====
section
/-! DEFINITION. The debug extensions (43_debug.md): setWait, controlLine, singleStep, and the meanings of their
commands. -/

namespace Sys2Proof.Machine

/-- `setWait(active)` (R280). -/
def setWaitOp (active : Bool) : Op Unit :=
  act (if active then lineAssert .wait else lineRelease .wait)

/-- `controlLine` on a line (R281): Active, and with `pulse` Inactive again. -/
def pulseLine (l : Line) (pulse : Bool) (s : State) : State :=
  if pulse then lineRelease l (lineAssert l s) else lineAssert l s

/-! ## singleStep -/

/-- Several memory writes in order, each a transaction (R284, R286). -/
def writeBytes (bytes : List (Addr × Byte)) : Op Unit :=
  inOrder (bytes.map fun x => writeMemoryOp x.1 x.2)

/-- Phase 2 (R283, R288): the snapshot of addresses 0 to 2, or the saved bytes of the pending one. -/
def takeSnapshot (target : Addr) : Op Unit := fun s =>
  match s.pending with
  | some snap => (.ok (), setPending (some { snap with jumpTarget := target }) s)
  | none =>
    andThen (readMemoryOp 0#16)
      (fun b0 => andThen (readMemoryOp 1#16) fun b1 => andThen (readMemoryOp 2#16) fun b2 =>
        act (setPending (some ⟨b0, b1, b2, target⟩))) s

/-- Phase 4 (R285, R289): the CPU runs from reset, is held by WAIT, and the bus is sampled. -/
def runAndSample : Op (Addr × Byte) := fun s =>
  andThen (act fun m => lineAssert .wait (pulseLine .reset true m))
    (fun _ =>
      andThen readRawAddrOp fun a =>
        andThen (readRawBankOp .data) fun v =>
          andThen (act fun m => if m.params.ssWaitRelease then lineRelease .wait m else m) fun _ => result (a, v)) s

/-- Phase 5's writes (R286): the saved bytes back, each to its own address, and the snapshot dropped once all are there. -/
def restoreBytes : Op Unit := fun s =>
  match s.pending with
  | some snap => andThen (writeBytes (savedBytes snap)) (fun _ => act (setPending none)) s
  | none => (.ok (), s)

/-- `singleStep(T)` (R282 to R289), without its `NotConfigured` check. An error while the bus is owned releases it
(R287). -/
def singleStepOp (target : Addr) : Op (Addr × Byte) :=
  andThen grabOp fun _ =>
    andThen (onError (andThen (takeSnapshot target) fun _ => writeBytes (jumpBytes target)) releaseOp) fun _ =>
      andThen releaseOp fun _ =>
        andThen runAndSample fun sample =>
          andThen grabOp fun _ =>
            andThen (onError restoreBytes releaseOp) fun _ =>
              andThen releaseOp fun _ => result sample

/-! ## Meanings -/

/-- `SET_WAIT` (R280). -/
def execSetWait (active : Bool) (s : State) : Host.Outcome State Fault Refusal :=
  command (.setWait active) (precheck false (noData (setWaitOp active))) s

/-- `SINGLE_STEP` (R282). -/
def execSingleStep (target : Addr) (s : State) : Host.Outcome State Fault Refusal :=
  command (.singleStep target) (precheck false (singleStepOp target)) s

/-- `CONTROL_LINE` (R281): `UnknownSignal` comes before `NotConfigured` (R328). -/
def execControlLine (signal : Byte) (pulse : Bool) (s : State) : Host.Outcome State Fault Refusal :=
  command (.controlLine signal pulse)
    (match controlLineOf signal with
     | some l => precheck false (noData (act (pulseLine l pulse)))
     | none => raise (.unknownSignal signal)) s

end Sys2Proof.Machine
end

