-- ==== Sys2Proof/Machine/Dispatch.lean ====
section
/-! DEFINITION. One arm per instruction: the direct call of its meaning. -/

namespace Sys2Proof.Machine

def exec (i : Instr) (s : State) : Host.Outcome State Fault Refusal :=
  match i with
  | .configure => Sys2Proof.Machine.execConfigure s
  | .grab => Sys2Proof.Machine.execGrab s
  | .release => Sys2Proof.Machine.execRelease s
  | .readMem address => Sys2Proof.Machine.execReadMem address s
  | .writeMem address data => Sys2Proof.Machine.execWriteMem address data s
  | .readIo port => Sys2Proof.Machine.execReadIo port s
  | .writeIo port data => Sys2Proof.Machine.execWriteIo port data s
  | .readRawAddr => Sys2Proof.Machine.execReadRawAddr s
  | .readRawData => Sys2Proof.Machine.execReadRawData s
  | .readRawCtrl => Sys2Proof.Machine.execReadRawCtrl s
  | .setWait active => Sys2Proof.Machine.execSetWait active s
  | .singleStep jumpTarget => Sys2Proof.Machine.execSingleStep jumpTarget s
  | .controlLine signal pulse => Sys2Proof.Machine.execControlLine signal pulse s
  | .readBank chip bank => Sys2Proof.Machine.execReadBank chip bank s
  | .writeBank chip bank value mask => Sys2Proof.Machine.execWriteBank chip bank value mask s
  | .restoreBank chip bank => Sys2Proof.Machine.execRestoreBank chip bank s
  | .lineAssert line => Sys2Proof.Machine.execLineAssert line s
  | .lineRelease line => Sys2Proof.Machine.execLineRelease line s

end Sys2Proof.Machine
end

