-- ==== Sys2Proof/Machine/Step.lean ====
section
/-! DEFINITION. One step: a micro-op word given to the sequencer is performed (R122); else the next command on the port is
performed from its acceptance to its response (R110); else nothing happens. -/

namespace Sys2Proof.Machine

/-- One step of the machine. -/
def step (s : State) : Host.Outcome State Fault Refusal :=
  if s.hung then .fault .transportHung
  else
    match s.uopPort with
    | some w =>
      match decodeMicroOp w with
      | .instr i => exec i (takeUop s)
      | .rejected _ => .refused .microOpNotGenerated
    | none =>
      match fetchCommand s with
      | some (w, s1) =>
        match decodeCommand w with
        | .instr i => exec i s1
        | .rejected _ => rejectCommand w s1
      | none => .next s

/-- `s` with an instruction where `step` takes its next one: a micro-op word given to the sequencer, a command word on the
command port. The word is 32 bits, so `nbits` above the table's does not occur. -/
def State.withFetchWord (s : State) (nbits w : Nat) : State :=
  let word : Word := BitVec.ofNat 32 (w % 2 ^ nbits)
  if isMicroOpWord word then placeMicroOp word s else placeCommand word s

end Sys2Proof.Machine
end

