-- ==== Sys2Proof/Safety.lean ====
section
/-! DEFINITION. The vocabulary of claims: which events of the history are port actions, bus cycles and faults (R47, R48),
the port actions the rules list for each operation, the launch premises (R379), and the invariants of 10_state.md (R49,
R50). -/

namespace Sys2Proof.Machine

/-! ## Reading the history -/

/-- A transport transfer (R125). -/
def isTransfer : Event → Bool
  | .xferW _ _ _ _ => true
  | .xferR _ _ _ => true
  | _ => false

/-- A GPIO action (R135). -/
def isGpio : Event → Bool
  | .gpioDir _ _ => true
  | .gpioPU _ _ => true
  | .gpioW _ _ => true
  | .gpioR _ _ => true
  | _ => false

/-- A port action (R6). -/
def isPortAction (e : Event) : Bool := isTransfer e || isGpio e

/-- A bus-cycle event (R47, R239). -/
def isBusCycle : Event → Bool
  | .memRead _ _ => true
  | .memWrite _ _ => true
  | .ioRead _ _ => true
  | .ioWrite _ _ => true
  | _ => false

/-- A recorded fault (R43, R48). -/
def isFault : Event → Bool
  | .contention _ _ => true
  | _ => false

/-- The chip and register of a failed transfer. -/
def failedTransfer : Event → Option (ChipId × Byte)
  | .xferW c r _ false => some (c, r)
  | .xferR c r none => some (c, r)
  | _ => none

/-- What the history gained between two states. -/
def newEvents (s t : State) : List Event := t.history.drop s.history.length

/-- The port actions performed between two states, in order. -/
def portActions (s t : State) : List Event := (newEvents s t).filter isPortAction

/-- The bus cycles recorded between two states, in order. -/
def busCycles (s t : State) : List Event := (newEvents s t).filter isBusCycle

/-- No fault was recorded between two states. -/
def noNewFault (s t : State) : Bool := (newEvents s t).all fun e => !isFault e

/-- Every transfer between two states completed. -/
def noNewFailure (s t : State) : Bool := (newEvents s t).all fun e => (failedTransfer e).isNone

/-- The port actions and the bus cycles recorded between two states, in order. -/
def actionsAndCycles (s t : State) : List Event := (newEvents s t).filter fun e => isPortAction e || isBusCycle e

/-! ## Runs (R377) -/

/-- A run from a launch state: the caller issues its command words one after another, each after the response to the one
before (R378), and a fault or a refusal is the outcome of the whole run (R327). -/
def run : List Word → State → Host.Outcome State Fault Refusal
  | [], s => .next s
  | w :: ws, s =>
    match step (issue w s) with
    | .next t => run ws t
    | .fault e => .fault e
    | .refused r => .refused r

/-- A run ended here: the caller has the response to its last command (R377). -/
def ended (s : State) : Bool := ready s

/-- A run is good when it ended, its history records no fault, and no refusal is marked (R48, R377). -/
def goodRun (ws : List Word) (s : State) : Bool :=
  match run ws s with
  | .next t => ended t && t.history.all fun e => !isFault e
  | .fault _ => false
  | .refused _ => false

/-- The first failed transfer of a list of port actions, with its index from `k` on. -/
def firstFailure : Nat → List Event → Option Err
  | _, [] => none
  | k, e :: es =>
    match failedTransfer e with
    | some (c, r) => some (.transport c r k)
    | none => firstFailure (k + 1) es

/-! ## The port actions the rules list -/

/-- A completed write of a bank's register. -/
def wroteReg (p : Params) (id : BankId) (reg : Bank → Reg) (v : Byte) : Event :=
  .xferW id.chip (regAddr p (reg id.bank)) v true

/-- `readBank` (R168). -/
def readBankTrace (p : Params) (id : BankId) (v : Byte) : List Event :=
  [wroteReg p id .iodir (allIn p), .xferR id.chip (gpioAddr p id.bank) (some v)]

/-- `writeBank` (R169). -/
def writeBankTrace (p : Params) (id : BankId) (value mask : Byte) : List Event :=
  match p.writeOrder with
  | .latchFirst => [wroteReg p id .olat value, wroteReg p id .iodir (dirVal p mask)]
  | .dirFirst => [wroteReg p id .iodir (dirVal p mask), wroteReg p id .olat value]

/-- `restoreBank` (R170). -/
def restoreTrace (p : Params) (id : BankId) : List Event := [wroteReg p id .iodir (allIn p)]

/-- `lineAssert` (R171). -/
def assertTrace (p : Params) (l : Line) : List Event :=
  [.gpioW (gpioPin p l) (activeLevel p (lineSignal l)), .gpioDir (gpioPin p l) .output]

/-- `lineRelease` (R172), with the Inactive drive of an active-high line. -/
def releaseTrace (p : Params) (l : Line) : List Event :=
  if activeLevel p (lineSignal l) then
    [.gpioW (gpioPin p l) false, .gpioDir (gpioPin p l) .output]
  else [.gpioDir (gpioPin p l) .input]

/-- A bus-facing bank driven whole. -/
def driveTrace (p : Params) (n : SignalName) (v : Byte) : List Event := writeBankTrace p (bankOf p n) v 0xFF#8

/-- The strobe assert (R231). -/
def strobeTrace (p : Params) (m : Byte) : List Event := writeBankTrace p (bankOf p .ctrl) (ctrlValue p m) m

/-- The de-assert (R231). -/
def deassertTrace (p : Params) (m : Byte) : List Event := writeBankTrace p (bankOf p .ctrl) (ctrlValue p 0#8) m

/-- Where the event `e` of a write transaction may stand in its strobe assert (R239): after the direction transfer under
`LatchFirst`; under `DirFirst` after the latch transfer, or after the direction transfer when the old latch makes the cycle
already (log 21). -/
def strobeCycleTraces (p : Params) (m : Byte) (e : Event) : List (List Event) :=
  match p.writeOrder with
  | .latchFirst => [strobeTrace p m ++ [e]]
  | .dirFirst =>
    [strobeTrace p m ++ [e],
      [wroteReg p (bankOf p .ctrl) .iodir (dirVal p m), e, wroteReg p (bankOf p .ctrl) .olat (ctrlValue p m)]]

/-- Restores of several bus-facing banks. -/
def restoresTrace (p : Params) (ns : List SignalName) : List Event := ns.flatMap fun n => restoreTrace p (bankOf p n)

/-- The 14 transfers of `readMemory` (R232). -/
def readMemTrace (p : Params) (a : Addr) (v : Byte) : List Event :=
  driveTrace p .addrLo (addrLow a) ++ driveTrace p .addrHi (addrHigh a) ++ strobeTrace p (memRdMask p) ++
    readBankTrace p (bankOf p .data) v ++ deassertTrace p (memRdMask p) ++
    restoresTrace p [.ctrl, .data, .addrHi, .addrLo]

/-- The 14 transfers of `writeMemory` (R233). -/
def writeMemTrace (p : Params) (a : Addr) (v : Byte) : List Event :=
  driveTrace p .addrLo (addrLow a) ++ driveTrace p .addrHi (addrHigh a) ++ driveTrace p .data v ++
    strobeTrace p (memWrMask p) ++ deassertTrace p (memWrMask p) ++ restoresTrace p [.ctrl, .data, .addrHi, .addrLo]

/-- The 11 transfers of `readIo` (R234). -/
def readIoTrace (p : Params) (port v : Byte) : List Event :=
  driveTrace p .addrLo port ++ strobeTrace p (ioRdMask p) ++ readBankTrace p (bankOf p .data) v ++
    deassertTrace p (ioRdMask p) ++ restoresTrace p [.ctrl, .data, .addrLo]

/-- The 11 transfers of `writeIo` (R235). -/
def writeIoTrace (p : Params) (port v : Byte) : List Event :=
  driveTrace p .addrLo port ++ driveTrace p .data v ++ strobeTrace p (ioWrMask p) ++
    deassertTrace p (ioWrMask p) ++ restoresTrace p [.ctrl, .data, .addrLo]

/-- The transfers and the GPIO action of `release` (R206). -/
def releaseBusTrace (p : Params) : List Event :=
  restoresTrace p [.ctrl, .data, .addrHi, .addrLo] ++ releaseTrace p .busrq

/-- The seven transfers of `configure` for one chip (R167). -/
def configureChipTrace (p : Params) (c : ChipId) : List Event :=
  [ .xferW c (regAddr p .iocon) 0x28#8 true,
    wroteReg p ⟨c, .portA⟩ .iodir (allIn p), wroteReg p ⟨c, .portB⟩ .iodir (allIn p),
    wroteReg p ⟨c, .portA⟩ .ipol 0x00#8, wroteReg p ⟨c, .portB⟩ .ipol 0x00#8,
    wroteReg p ⟨c, .portA⟩ .gppu 0xFF#8, wroteReg p ⟨c, .portB⟩ .gppu 0xFF#8 ]

/-- The transfers and GPIO actions of `configure` (R167). -/
def configureTrace (p : Params) : List Event :=
  .xferW .chip0 (regAddr p .iocon) 0x28#8 true :: (chipsOf p.numChips).flatMap (configureChipTrace p) ++
    allLines.flatMap fun l => .gpioPU (gpioPin p l) true :: releaseTrace p l

/-! ## Outcomes -/

/-- The state in which a command left nothing but its response: no port action, no other change (R117, R230, R325). -/
def answered (s : State) (r : Reply) : State :=
  { s with seq := none, response := some r, history := s.history ++ [.response r] }

/-- The port action recorded when the transfer that was to be recorded as `e` fails (R47, R175). -/
def asFailed : Event → Event
  | .xferW c r v _ => .xferW c r v false
  | .xferR c r _ => .xferR c r none
  | e => e

/-- The error of a transfer that failed as port action `k` of its command (R121). -/
def failureAt (k : Nat) : Event → Option Err
  | .xferW c r _ _ => some (.transport c r k)
  | .xferR c r _ => some (.transport c r k)
  | _ => none

/-- The block's own state but for the arbiter (R30) is the same. -/
def sameButArb (s t : State) : Prop :=
  t.params = s.params ∧ t.configured = s.configured ∧ t.pending = s.pending ∧ t.lines = s.lines

/-- The block's own state between commands (R30) is the same. -/
def sameBlock (s t : State) : Prop := sameButArb s t ∧ t.arb = s.arb

/-- A bank that was driven with `v` and then restored (R169, R170). -/
def drivenAndRestored (p : Params) (v : Byte) (r : BankRegs) : BankRegs := { r with iodir := allIn p, olat := v }

/-- A bank that was only read or restored (R168, R170). -/
def madeInput (p : Params) (r : BankRegs) : BankRegs := { r with iodir := allIn p }

/-- Every configuration register is as it was. -/
def sameIocon (s t : State) : Prop := ∀ c, (chipRegs t.chips c).iocon = (chipRegs s.chips c).iocon

/-- The lines but `l` are as they were. -/
def sameOtherLines (l : Line) (s t : State) : Prop := ∀ l', l' ≠ l → ofLine t.lines l' = ofLine s.lines l'

/-- Every register of every expander but the direction registers is as it was. -/
def sameButDirections (s t : State) : Prop :=
  sameIocon s t ∧
    ∀ id, { bankRegs t.chips id with iodir := (bankRegs s.chips id).iodir } = bankRegs s.chips id

/-- A pin after `lineAssert` (R171). -/
def assertedPin (p : Params) (l : Line) (x : LinePin) : LinePin :=
  { x with dir := .output, out := activeLevel p (lineSignal l) }

/-- A pin after `lineRelease` (R172): an input, or for an active-high line an output at the Inactive level. -/
def releasedPin (p : Params) (l : Line) (x : LinePin) : LinePin :=
  if activeLevel p (lineSignal l) then { x with dir := .output, out := false } else { x with dir := .input }

/-- An environment that makes no memory or I/O cycle of its own: the CPU stores nothing, and no party but the block and
the expanders' pull-ups puts a strobe of the control bank Active (R41, R52). -/
def quietDraw (p : Params) (d : Draw) : Prop :=
  d.cpuStores = [] ∧ (ofBank d.banks (bankOf p .ctrl)).drive = 0x00#8 ∧
    (ofBank d.banks (bankOf p .ctrl)).float = 0xFF#8

/-- The control bank drives nothing. -/
def ctrlUndriven (s : State) : Prop := blockDrive s (bankOf s.params .ctrl) = 0x00#8

/-! ## The port actions and bus cycles of `singleStep` (R282 to R289) -/

/-- A `grab` granted at its first poll (R201). -/
def grabOnceTrace (p : Params) (v : Byte) : List Event :=
  assertTrace p .busrq ++ readBankTrace p (bankOf p .ctrl) v

/-- Three `writeMemory` calls at addresses 0, 1 and 2 (R284, R286). -/
def writeVectorTrace (p : Params) (b0 b1 b2 : Byte) : List Event :=
  writeMemTrace p 0#16 b0 ++ writeMemTrace p 1#16 b1 ++ writeMemTrace p 2#16 b2

/-- Phases 3 to 5 of `singleStep` (R284 to R286), the second `grab` granted at its first poll. -/
def jumpAndRestoreTrace (p : Params) (target : Addr) (b0 b1 b2 lo hi d v : Byte) : List Event :=
  writeVectorTrace p 0xC3#8 (addrLow target) (addrHigh target) ++ releaseBusTrace p ++ assertTrace p .reset ++
    releaseTrace p .reset ++ assertTrace p .wait ++ readBankTrace p (bankOf p .addrLo) lo ++
    readBankTrace p (bankOf p .addrHi) hi ++ readBankTrace p (bankOf p .data) d ++
    (if p.ssWaitRelease then releaseTrace p .wait else []) ++ grabOnceTrace p v ++ writeVectorTrace p b0 b1 b2 ++
    releaseBusTrace p

/-- The memory cycles of phases 3 and 5. -/
def jumpAndRestoreCycles (target : Addr) (b0 b1 b2 : Byte) : List Event :=
  [ .memWrite 0#16 0xC3#8, .memWrite 1#16 (addrLow target), .memWrite 2#16 (addrHigh target),
    .memWrite 0#16 b0, .memWrite 1#16 b1, .memWrite 2#16 b2 ]

/-! ## Premises on a state -/

/-- The environment answers each of the next `n` transfers (R125). -/
abbrev TransfersAnswered (n : Nat) (s : State) : Prop := ∀ i < n, (drawAt s i).xfer = .ok

/-- None of the next `n` transfers hangs (R327). -/
abbrev NothingHangs (n : Nat) (s : State) : Prop := ∀ i < n, (drawAt s i).xfer ≠ .hang

/-- Every chip present decodes its hardware address (R128). -/
def chipsDecode (s : State) : Bool :=
  (chipsOf s.params.numChips).all fun c => decodesAddress (chipRegs s.chips c).iocon

/-- Every bank of every chip present is all-input with its pull-ups on: the rest invariant (R49). -/
def atRest (s : State) : Bool :=
  (banksOf s.params.numChips).all fun id =>
    (bankRegs s.chips id).iodir == allIn s.params && (bankRegs s.chips id).gppu == 0xFF#8

/-- The expander part of `CleanConfigured` (R379). -/
def chipsClean (s : State) : Bool :=
  atRest s && (banksOf s.params.numChips).all (fun id => (bankRegs s.chips id).ipol == 0x00#8) &&
    (chipsOf s.params.numChips).all (fun c => (chipRegs s.chips c).iocon == 0x28#8)

/-- A released line with its pull-up on (R34). -/
def lineAtRest (s : State) (l : Line) : Bool := lineReleased s l && (ofLine s.lines l).pullUp

/-- The launch premise `CleanConfigured` (R379). -/
def cleanConfigured (s : State) : Bool :=
  s.configured && s.arb == .released && s.pending == none && s.seq == none && allLines.all (lineAtRest s) &&
    chipsClean s && s.cpu.granted == false && s.history.all fun e => !isFault e

/-- The launch premise `CleanOwned` (R379): `CleanConfigured` but for the arbiter, BUSRQ and the grant. -/
def cleanOwned (s : State) : Bool :=
  s.configured && s.arb == .owned && s.pending == none && s.seq == none && lineAsserted s .busrq &&
    [Line.wait, .reset, .int, .nmi].all (lineAtRest s) && chipsClean s && s.cpu.granted &&
    s.history.all fun e => !isFault e

/-- The default wiring and polarity (R11, R131), whatever the other parameters are. -/
def defaultWiring (p : Params) : Bool := p.signalMap == defaultMap && p.activeHigh == []

/-! ## Invariants -/

/-- The ownership invariant (R50). -/
def ownershipHolds (s : State) : Prop := s.arb = .owned → lineAsserted s .busrq = true

/-- An instruction of the command port (R112). -/
def isCommand : Instr → Bool
  | .readBank _ _ => false
  | .writeBank _ _ _ _ => false
  | .restoreBank _ _ => false
  | .lineAssert _ => false
  | .lineRelease _ => false
  | _ => true

/-- A command that fails with `NotConfigured` before `CONFIGURE` (R326): every one but `CONFIGURE`, and a `CONTROL_LINE`
only with a known signal code (R328). -/
def needsConfigure : Instr → Bool
  | .configure => false
  | .controlLine signal _ => (controlLineOf signal).isSome
  | i => isCommand i

/-- The four transactions (R230). -/
def isTransaction : Instr → Bool
  | .readMem _ => true
  | .writeMem _ _ => true
  | .readIo _ => true
  | .writeIo _ _ => true
  | _ => false

/-- The discrete lines a command may act on (R167, R201, R206, R280 to R282). -/
def mayWriteLine : Instr → Line → Bool
  | .configure, _ => true
  | .grab, l => l == .busrq
  | .release, l => l == .busrq
  | .setWait _, l => l == .wait
  | .controlLine signal _, l => controlLineOf signal == some l
  | .singleStep _, l => l == .busrq || l == .wait || l == .reset
  | .lineAssert code, l => lineOfCode code == some l
  | .lineRelease code, l => lineOfCode code == some l
  | _, _ => false

end Sys2Proof.Machine
end

