-- ==== Sys2Proof/Certificates/Slice0/Obligations.lean ====
section
/-! DEFINITION. The statements for the provers, each with the rules or the sections of spec/ it rests on. -/

open Sys2Proof Sys2Proof.Machine

/-! ## Encoding -/

/-- Decoding the four bytes of an encoded instruction, whatever follows them, gives the instruction back, with every
operand at every value its field holds (30_encoding.md sections 1 and 3). -/
def Obligations.DecodeEncodeRoundTrip : Prop :=
  ∀ (i : Instr) (rest : List Byte), decodeBytes (wordBytes (encode i) ++ rest) = some (.instr i, rest)

/-- A word has one meaning: the only word decoded to an instruction is its encoding (30_encoding.md sections 1 and 3). -/
def Obligations.EncodeOfDecodedWord : Prop :=
  ∀ (w : Word) (i : Instr), decodeWord w = .instr i → encode i = w

/-- Words written out in the spec, and the instructions they stand for (R113, R117, R167, R201, R206, R236 to R238, R280
and the vectors of 95_test_vectors.md sections 2 and 3); and words the spec rejects. -/
def Obligations.SpecWordsDecode : Prop :=
  decodeTableWord 32 0x00000001 = some .configure ∧ decodeTableWord 32 0x00000002 = some .grab ∧
    decodeTableWord 32 0x00000003 = some .release ∧
    decodeTableWord 32 0x00400010 = some (.readMem 0x4000#16) ∧
    decodeTableWord 32 0xA5123411 = some (.writeMem 0x1234#16 0xA5#8) ∧
    decodeTableWord 32 0x00007F12 = some (.readIo 0x7F#8) ∧
    decodeTableWord 32 0x3C007F13 = some (.writeIo 0x7F#8 0x3C#8) ∧
    decodeTableWord 32 0x00000020 = some .readRawAddr ∧ decodeTableWord 32 0x00000120 = some .readRawData ∧
    decodeTableWord 32 0x00000220 = some .readRawCtrl ∧ decodeTableWord 32 0x00000320 = none ∧
    decodeTableWord 32 0x00000130 = some (.setWait true) ∧ decodeTableWord 32 0x00000030 = some (.setWait false) ∧
    decodeTableWord 32 0x00800031 = some (.singleStep 0x8000#16) ∧
    decodeTableWord 32 0x01000032 = some (.controlLine 0x00#8 true) ∧
    decodeTableWord 32 0x00000580 = some (.readBank 1#2 .portB) ∧
    decodeTableWord 32 0x12ED0581 = some (.writeBank 1#2 .portB 0xED#8 0x12#8) ∧
    decodeTableWord 32 0x00000482 = some (.restoreBank 0#2 .portB) ∧
    decodeTableWord 32 0x00000884 = some (.lineAssert 1#3) ∧
    decodeTableWord 32 0x00000885 = some (.lineRelease 1#3) ∧ decodeTableWord 32 0x00010001 = none

/-- Every operand of a command is the field R115 names, as it stands in the word (R115). -/
def Obligations.OperandAssembly : Prop :=
  ∀ (w : Word) (i : Instr), decodeCommand w = .instr i →
    match i with
    | .readMem address => address = w.extractLsb' 8 16
    | .writeMem address data => address = w.extractLsb' 8 16 ∧ data = w.extractLsb' 24 8
    | .readIo port => port = w.extractLsb' 8 8
    | .writeIo port data => port = w.extractLsb' 8 8 ∧ data = w.extractLsb' 24 8
    | .readRawAddr => w.extractLsb' 8 2 = 0#2
    | .readRawData => w.extractLsb' 8 2 = 1#2
    | .readRawCtrl => w.extractLsb' 8 2 = 2#2
    | .setWait active => active = w.getLsbD 8
    | .singleStep jumpTarget => jumpTarget = w.extractLsb' 8 16
    | .controlLine signal pulse => signal = w.extractLsb' 8 8 ∧ pulse = w.getLsbD 24
    | .configure => True
    | .grab => True
    | .release => True
    | .readBank _ _ => False
    | .writeBank _ _ _ _ => False
    | .restoreBank _ _ => False
    | .lineAssert _ => False
    | .lineRelease _ => False

/-- A command word whose opcode R112 does not list is answered with `IllegalCommand` and `d8 = op`, and nothing else
happens (R114). -/
def Obligations.UnassignedOpcodeIsIllegal : Prop :=
  ∀ (s : State) (w : Word) (rest : List Byte),
    registryOk s.params = true → s.hung = false → s.uopPort = none → s.seq = none → s.cmdPort = wordBytes w ++ rest →
    (let op := w.toNat % 256
     op = 0x00 ∨ (0x04 ≤ op ∧ op ≤ 0x0F) ∨ (0x14 ≤ op ∧ op ≤ 0x1F) ∨ (0x21 ≤ op ∧ op ≤ 0x2F) ∨ 0x33 ≤ op) →
    ∃ r, step s = .next (answered { s with cmdPort := rest } r) ∧ replyStatus r = 0x05#8 ∧
      replyD8 r = w.extractLsb' 0 8 ∧ replyD16 r = 0#16 ∧ replyWarn r = false

/-- A command word with a listed opcode and a bit set that R112 says must be 0 is answered with `IllegalCommand` and
`d8 = op`, and nothing else happens (R113); so is a `READ_RAW` with the reserved selector 3. -/
def Obligations.ReservedBitIsIllegal : Prop :=
  ∀ (s : State) (w : Word) (rest : List Byte),
    registryOk s.params = true → s.hung = false → s.uopPort = none → s.seq = none → s.cmdPort = wordBytes w ++ rest →
    (∃ m ∈ [(0x01, 0xFFFFFF00#32), (0x02, 0xFFFFFF00#32), (0x03, 0xFFFFFF00#32), (0x10, 0xFF000000#32),
        (0x12, 0xFFFF0000#32), (0x13, 0x00FF0000#32), (0x20, 0xFFFFFC00#32), (0x30, 0xFFFFFE00#32),
        (0x31, 0xFF000000#32), (0x32, 0xFEFF0000#32)], w.toNat % 256 = m.1 ∧ w &&& m.2 ≠ 0#32) ∨
      (w.toNat % 256 = 0x20 ∧ w.toNat / 256 % 4 = 3) →
    ∃ r, step s = .next (answered { s with cmdPort := rest } r) ∧ replyStatus r = 0x05#8 ∧
      replyD8 r = w.extractLsb' 0 8 ∧ replyD16 r = 0#16 ∧ replyWarn r = false

/-- The micro-op words: the fields of the five micro-ops (R122, R123), and the refusal of a word with another `uop`, a
reserved bit set, an unused field set, an absent chip or an unassigned line code (R123). -/
def Obligations.MicroOpWords : Prop :=
  (∀ (c : BitVec 2) (value mask : Byte),
    decodeMicroOp (0#8 ++ 0#8 ++ 0#5 ++ 0#1 ++ c ++ 0x80#8) = .instr (.readBank c .portA) ∧
    decodeMicroOp (0#8 ++ 0#8 ++ 0#5 ++ 1#1 ++ c ++ 0x80#8) = .instr (.readBank c .portB) ∧
    decodeMicroOp (mask ++ value ++ 0#5 ++ 0#1 ++ c ++ 0x81#8) = .instr (.writeBank c .portA value mask) ∧
    decodeMicroOp (mask ++ value ++ 0#5 ++ 1#1 ++ c ++ 0x81#8) = .instr (.writeBank c .portB value mask) ∧
    decodeMicroOp (0#8 ++ 0#8 ++ 0#5 ++ 0#1 ++ c ++ 0x82#8) = .instr (.restoreBank c .portA) ∧
    decodeMicroOp (0#8 ++ 0#8 ++ 0#5 ++ 1#1 ++ c ++ 0x82#8) = .instr (.restoreBank c .portB)) ∧
  (∀ line : BitVec 3,
    decodeMicroOp (0#8 ++ 0#8 ++ 0#2 ++ line ++ 0#3 ++ 0x84#8) = .instr (.lineAssert line) ∧
    decodeMicroOp (0#8 ++ 0#8 ++ 0#2 ++ line ++ 0#3 ++ 0x85#8) = .instr (.lineRelease line)) ∧
  ∀ (s : State) (w : Word), s.hung = false → s.uopPort = some w →
    (let uop := w.toNat % 256
     let onBank := uop = 0x80 ∨ uop = 0x81 ∨ uop = 0x82
     let onLine := uop = 0x84 ∨ uop = 0x85
     ¬(onBank ∨ onLine) ∨ w &&& 0x0000C000#32 ≠ 0#32 ∨
       (onBank ∧ (chipsOf s.params.numChips).length ≤ w.toNat / 256 % 4) ∨ (onLine ∧ 5 ≤ w.toNat / 2048 % 8) ∨
       (onBank ∧ w &&& 0x00003800#32 ≠ 0#32) ∨ (onLine ∧ w &&& 0x00000700#32 ≠ 0#32) ∨
       (uop ≠ 0x81 ∧ w &&& 0xFFFF0000#32 ≠ 0#32)) →
    step s = .refused .microOpNotGenerated

/-! ## The step -/

/-- A step runs the decoded instruction: a whole command word on the command port, its bytes taken; and a micro-op word
given to the sequencer, the word taken (the port it stands on is the model's own, log 9). With neither, or with a command in
progress, nothing happens (log 31), and a block that waits on a transfer has no next step (30_encoding.md sections 1 and 3;
60_exceptions.md section 1). -/
def Obligations.StepRunsDecodedInstruction : Prop :=
  (∀ (s : State) (w : Word) (rest : List Byte) (i : Instr), s.hung = false → s.uopPort = none → s.seq = none →
    s.cmdPort = wordBytes w ++ rest → decodeCommand w = .instr i → step s = exec i { s with cmdPort := rest }) ∧
  (∀ (s : State) (w : Word) (i : Instr), s.hung = false → s.uopPort = some w → decodeMicroOp w = .instr i →
    step s = exec i { s with uopPort := none }) ∧
  (∀ s : State, s.hung = false → s.uopPort = none → (s.cmdPort.length < 4 ∨ s.seq ≠ none) → step s = .next s) ∧
  ∀ s : State, s.hung = true → step s = .fault .transportHung

/-- Every command ends: it returns with its response last in the history and with no command in progress, unless a
transfer that never completes holds it; then there is no response, the command stays in progress, and one of the transfers
of the environment hangs. So a run of command words ends, with one response each, unless a transfer hangs
(70_reset_and_hazards.md sections 3 and 4; 60_exceptions.md section 1; how a stuck machine is kept is the model's, log 8). -/
def Obligations.CommandsAnswerUnlessStuck : Prop :=
  (∀ (i : Instr) (s : State), isCommand i = true → registryOk s.params = true → s.hung = false →
    ∃ t, exec i s = .next t ∧
      ((t.hung = false ∧ t.seq = none ∧
          ∃ r, t.response = some r ∧ t.history.getLast? = some (.response r)) ∨
        (t.hung = true ∧ t.seq ≠ none ∧ t.response = s.response ∧ (∀ r, Event.response r ∉ newEvents s t) ∧
          ∃ k, (drawAt s k).xfer = .hang))) ∧
  ∀ (ws : List Word) (s : State), registryOk s.params = true → ready s = true →
    (∃ t, run ws s = .next t ∧ ended t = true ∧
      ((newEvents s t).filter fun e => match e with
        | .response _ => true
        | _ => false).length = ws.length) ∨
      ∃ k, (drawAt s k).xfer = .hang

/-- No command runs with a registry that fails one of the checks WF1 to WF5; the source's test registry fails, whatever
the other parameters are, and the default registry passes (40_bank_driver.md section 1). -/
def Obligations.RejectedRegistryIsRefused : Prop :=
  (∀ (i : Instr) (s : State), isCommand i = true → registryOk s.params = false →
    exec i s = .refused .registryRejected) ∧
  (∀ p : Params, registryOk { p with signalMap := testMap } = false) ∧
  ∀ p : Params, defaultWiring p = true → registryOk p = true

/-! ## Reset -/

/-- Block reset: the block's state takes its reset values; no port action is performed, and the expander registers, the
CPU's grant and memory stay (R360). -/
def Obligations.BlockResetValues : Prop :=
  ∀ s : State, (blockReset s).configured = false ∧ (blockReset s).arb = .released ∧ (blockReset s).pending = none ∧
    (∀ l, (ofLine (blockReset s).lines l).dir = .input) ∧ (blockReset s).seq = none ∧
    (blockReset s).history.filter isPortAction = [] ∧ (blockReset s).chips = s.chips ∧
    (blockReset s).cpu.granted = s.cpu.granted ∧ (blockReset s).mem = s.mem

/-- The state at power-on: the block at its reset values, each expander at the power-on values of R361 (the spec takes
them from general knowledge, log 12), so that the block drives no line; the CPU not granted, an empty history, memory in its
canonical form and the ownership invariant; the five discrete lines on five distinct host pins
(10_state.md section 6; 70_reset_and_hazards.md section 1; 00_scope.md section 3). -/
def Obligations.PowerOnState : Prop :=
  State.reset.configured = false ∧ State.reset.arb = .released ∧ State.reset.pending = none ∧
    (∀ l, (ofLine State.reset.lines l).dir = .input) ∧ State.reset.seq = none ∧ State.reset.cpu.granted = false ∧
    State.reset.history = [] ∧ Memory.wf State.reset.mem ∧ ownershipHolds State.reset ∧
    (∀ id, blockDrive State.reset id = 0x00#8) ∧
    (∀ l l', gpioPin State.reset.params l = gpioPin State.reset.params l' → l = l') ∧
    (∀ c, (chipRegs State.reset.chips c).iocon = 0x00#8) ∧
    ∀ id, (bankRegs State.reset.chips id).iodir = 0xFF#8 ∧ (bankRegs State.reset.chips id).ipol = 0x00#8 ∧
      (bankRegs State.reset.chips id).gppu = 0x00#8 ∧ (bankRegs State.reset.chips id).olat = 0x00#8 ∧
      (bankRegs State.reset.chips id).gpinten = 0x00#8

/-! ## Operand forms, masks and response words -/

/-- `DIRVAL(m)` makes exactly the bits of `m` outputs, for both senses of a direction bit, and `ALLIN` is `DIRVAL(0)`,
`0xFF` by default (R129). -/
def Obligations.DirectionValues : Prop :=
  (∀ (p : Params) (m : Byte), p.dirInputBit = true → dirVal p m = ~~~m) ∧
    (∀ (p : Params) (m : Byte), p.dirInputBit = false → dirVal p m = m) ∧
    (∀ (p : Params) (m : Byte), outputBits p (dirVal p m) = m) ∧ (∀ p : Params, allIn p = dirVal p 0x00#8) ∧
    ∀ p : Params, p.dirInputBit = true → allIn p = 0xFF#8

/-- The control-bank output value for a set `m` of strobe bits: a strobe in `m` at its Active level, another strobe at its
Inactive level, every other bit 1; with every signal active low it is `~m` (R133). -/
def Obligations.ControlBankValue : Prop :=
  ∀ (p : Params) (m : Byte), registryOk p = true → m &&& ~~~strobeMask p = 0x00#8 →
    (∀ n ∈ [SignalName.mreq, .ioreq, .rd, .wr],
      (m &&& maskOf p n ≠ 0x00#8 → (ctrlValue p m &&& maskOf p n != 0x00#8) = activeLevel p n) ∧
      (m &&& maskOf p n = 0x00#8 → (ctrlValue p m &&& maskOf p n != 0x00#8) = !activeLevel p n)) ∧
    ctrlValue p m &&& ~~~strobeMask p = ~~~strobeMask p ∧ (p.activeHigh = [] → ctrlValue p m = ~~~m)

/-- What the default registry gives: the composite strobe masks, a composite of names on two banks refused, and the eight
entries of `decodeCtrl`, each the electrical level of its bit (30_encoding.md section 5; 40_bank_driver.md section 1;
42_transactions.md section 3). -/
def Obligations.DefaultRegistryReadings : Prop :=
  ∀ (p : Params) (v : Byte), p.signalMap = defaultMap →
    lookupAll p [.mreq, .rd] = some (⟨.chip1, .portB⟩, 0x12#8) ∧
    lookupAll p [.mreq, .wr] = some (⟨.chip1, .portB⟩, 0x14#8) ∧
    lookupAll p [.ioreq, .rd] = some (⟨.chip1, .portB⟩, 0x0A#8) ∧
    lookupAll p [.ioreq, .wr] = some (⟨.chip1, .portB⟩, 0x0C#8) ∧
    memRdMask p = 0x12#8 ∧ memWrMask p = 0x14#8 ∧ ioRdMask p = 0x0A#8 ∧ ioWrMask p = 0x0C#8 ∧
    lookupAll p [.addrLo, .mreq] = none ∧
    decodeCtrl p v =
      [(.busak, v.getLsbD 0), (.rd, v.getLsbD 1), (.wr, v.getLsbD 2), (.ioreq, v.getLsbD 3), (.mreq, v.getLsbD 4),
        (.m1, v.getLsbD 5), (.ctrlSpare6, v.getLsbD 6), (.ctrlSpare7, v.getLsbD 7)]

/-- The fields of a response: the status code of `OK` and of each error kind, the information each error carries, the
reserved bits 0 and the warn bit as given (30_encoding.md section 2). -/
def Obligations.ResponseWordFields : Prop :=
  (∀ (w : Bool) (a : BitVec 16) (v : Byte), replyStatus (okReply w a v) = 0x00#8 ∧ replyWarn (okReply w a v) = w ∧
    replyD16 (okReply w a v) = a ∧ replyD8 (okReply w a v) = v ∧ (okReply w a v).extractLsb' 9 7 = 0#7) ∧
  (∀ (w : Bool) (e : Err), replyWarn (errReply w e) = w ∧ (errReply w e).extractLsb' 9 7 = 0#7) ∧
  (∀ (w : Bool) (code : Byte), replyStatus (errReply w (.unknownSignal code)) = 0x01#8 ∧
    replyD16 (errReply w (.unknownSignal code)) = 0#16 ∧ replyD8 (errReply w (.unknownSignal code)) = code) ∧
  (∀ w : Bool, errReply w .busNotOwned = okReply w 0#16 0#8 ||| 0x02#40 ∧
    errReply w .busGrantTimeout = okReply w 0#16 0#8 ||| 0x03#40 ∧
    errReply w .notConfigured = okReply w 0#16 0#8 ||| 0x06#40) ∧
  (∀ (w : Bool) (c : ChipId) (r : Byte) (k : Nat), replyStatus (errReply w (.transport c r k)) = 0x04#8 ∧
    (replyD16 (errReply w (.transport c r k))).toNat = (chipNumber c).toNat * 256 + r.toNat ∧
    (replyD8 (errReply w (.transport c r k))).toNat = k % 256) ∧
  ∀ (w : Bool) (op : Byte), replyStatus (errReply w (.illegalCommand op)) = 0x05#8 ∧
    replyD16 (errReply w (.illegalCommand op)) = 0#16 ∧ replyD8 (errReply w (.illegalCommand op)) = op

/-! ## Errors before any port action -/

/-- A command other than `CONFIGURE` before a successful `configure` answers `NotConfigured` and does nothing else; an
unknown `CONTROL_LINE` code is the other error and comes first (R326, with the order of R328 in `needsConfigure`). -/
def Obligations.NotConfiguredBeforeAnything : Prop :=
  ∀ (i : Instr) (s : State), needsConfigure i = true → registryOk s.params = true → s.configured = false →
    exec i s = .next (answered s 0x0000000006#40)

/-- The precondition of the four transactions, checked before any port action: `NotConfigured`, and else `BusNotOwned`
while the arbiter is `Released` (R230). -/
def Obligations.TransactionPrecondition : Prop :=
  ∀ (i : Instr) (s : State), isTransaction i = true → registryOk s.params = true →
    (s.configured = false → exec i s = .next (answered s 0x0000000006#40)) ∧
      (s.configured = true → s.arb = .released → exec i s = .next (answered s 0x0000000002#40))

/-! ## CONFIGURE -/

/-- `CONFIGURE` with every transfer answered: its port actions, and the state it leaves from any state
(40_bank_driver.md section 2). The output latches, which no transfer writes, stay; an active-high line is released as
log 18 says. -/
def Obligations.ConfigureResult : Prop :=
  ∀ s : State, registryOk s.params = true → TransfersAnswered (1 + 7 * (chipsOf s.params.numChips).length) s →
    ∃ t, exec .configure s = .next t ∧ t.response = some (okReply false 0#16 0#8) ∧
      portActions s t = configureTrace s.params ∧ busCycles s t = [] ∧ t.configured = true ∧ t.arb = .released ∧
      t.pending = s.pending ∧ t.params = s.params ∧
      (∀ l, ofLine t.lines l = releasedPin s.params l { ofLine s.lines l with pullUp := true }) ∧
      (∀ c ∈ chipsOf s.params.numChips, (chipRegs t.chips c).iocon = 0x28#8) ∧
      (∀ id ∈ banksOf s.params.numChips, bankRegs t.chips id =
        { bankRegs s.chips id with iodir := allIn s.params, ipol := 0x00#8, gppu := 0xFF#8 }) ∧
      (s.params.numChips = .two → t.chips.chip2 = s.chips.chip2)

/-- `CONFIGURE` stops at its first failed transfer: no later port action, the error with that transfer's index, the
block unconfigured and Released, the discrete lines untouched (40_bank_driver.md section 2; 60_exceptions.md section 3). -/
def Obligations.ConfigureStopsAtFirstFailure : Prop :=
  ∀ (s : State) (k : Nat) (v : Byte) (e : Event), registryOk s.params = true →
    k < 1 + 7 * (chipsOf s.params.numChips).length → TransfersAnswered k s → (drawAt s k).xfer = .err v →
    (configureTrace s.params)[k]? = some e →
    ∃ t err, exec .configure s = .next t ∧ failureAt k e = some err ∧ t.response = some (errReply false err) ∧
      portActions s t = (configureTrace s.params).take k ++ [asFailed e] ∧ t.configured = false ∧ t.arb = .released ∧
      t.lines = s.lines ∧ t.pending = s.pending

/-! ## GRAB and RELEASE -/

/-- `GRAB` while `Owned`: no port action, the warning recorded, `OK` with the warn bit (R202). -/
def Obligations.GrabWhileOwned : Prop :=
  ∀ s : State, registryOk s.params = true → s.configured = true → s.arb = .owned →
    exec .grab s = .next (answered { s with history := s.history ++ [.warnAlreadyOwned] } 0x0000000100#40)

/-- `GRAB` with every transfer answered: it asserts BUSRQ and polls the control bank until BUSAK reads Active, at most
`P_GRAB_POLL_LIMIT` times; then the block owns the bus, or it releases BUSRQ and answers `BusGrantTimeout`
(41_arbiter.md). An active-high BUSRQ is released as log 18 says. -/
def Obligations.GrabPollsUntilBusak : Prop :=
  ∀ s : State, registryOk s.params = true → s.configured = true → s.arb = .released →
    TransfersAnswered (2 + 2 * s.params.grabPollLimit) s →
    ∃ (t : State) (polls : List Byte), exec .grab s = .next t ∧ polls.length ≤ s.params.grabPollLimit ∧
      (∀ v ∈ polls.dropLast, busakActive s.params v = false) ∧
      t.params = s.params ∧ t.configured = true ∧ t.pending = s.pending ∧ sameOtherLines .busrq s t ∧
      sameButDirections s t ∧ busCycles s t = [] ∧
      ((polls.getLast?.any (busakActive s.params) = true ∧ t.arb = .owned ∧
          t.response = some (okReply false 0#16 0#8) ∧
          portActions s t = assertTrace s.params .busrq ++
            polls.flatMap (readBankTrace s.params (bankOf s.params .ctrl)) ∧
          ofLine t.lines .busrq = assertedPin s.params .busrq (ofLine s.lines .busrq)) ∨
        (polls.all (fun v => !busakActive s.params v) = true ∧ polls.length = s.params.grabPollLimit ∧
          t.arb = .released ∧ t.response = some (errReply false .busGrantTimeout) ∧
          portActions s t = assertTrace s.params .busrq ++
            polls.flatMap (readBankTrace s.params (bankOf s.params .ctrl)) ++ releaseTrace s.params .busrq ∧
          ofLine t.lines .busrq =
            releasedPin s.params .busrq (assertedPin s.params .busrq (ofLine s.lines .busrq))))

/-- From `CleanConfigured`, with a CPU that takes the grant no later than the first poll's read, `GRAB` owns the bus after
that poll, with no fault recorded, and leaves the launch premise `CleanOwned` (41_arbiter.md; 70_reset_and_hazards.md
section 4; 93_implementation_defined.md item 4). That a CPU which is not yet granted records no fault is the model's
(log 6). -/
def Obligations.GrabGivesCleanOwned : Prop :=
  ∀ s : State, cleanConfigured s = true → defaultWiring s.params = true → 1 ≤ s.params.grabPollLimit →
    TransfersAnswered 4 s → ((drawAt s 2).cpuMove = true ∨ (drawAt s 3).cpuMove = true) →
    ∃ t v, exec .grab s = .next t ∧ t.response = some (okReply false 0#16 0#8) ∧ v.getLsbD 0 = false ∧
      portActions s t = grabOnceTrace s.params v ∧ cleanOwned t = true ∧ noNewFault s t = true

/-- A `GRAB` that ends in a transport error: BUSRQ asserted, polls without an Active BUSAK, and a poll of which one transfer
failed, the one the response names; after that failed transfer, whichever of the two it is, one attempt to restore the control
bank, and then BUSRQ released. The arbiter stays `Released` (41_arbiter.md). An active-high BUSRQ is released as log 18
says. -/
def Obligations.FailedGrabLetsGo : Prop :=
  ∀ (s t : State) (c : ChipId) (r : Byte) (k : Nat) (w : Bool), s.configured = true → s.arb = .released →
    s.hung = false → exec .grab s = .next t → t.hung = false → t.response = some (errReply w (.transport c r k)) →
    t.arb = .released ∧ lineReleased t .busrq = true ∧
      ∃ (polls : List Byte) (v : Byte) (n : Nat) (before : List Event) (e : Event) (err : Err) (ok : Bool),
        (∀ b ∈ polls, busakActive s.params b = false) ∧
        before = assertTrace s.params .busrq ++ polls.flatMap (readBankTrace s.params (bankOf s.params .ctrl)) ++
          (readBankTrace s.params (bankOf s.params .ctrl) v).take n ∧
        (readBankTrace s.params (bankOf s.params .ctrl) v)[n]? = some e ∧
        failureAt before.length e = some err ∧ t.response = some (errReply w err) ∧
        portActions s t = before ++ asFailed e ::
          .xferW (bankOf s.params .ctrl).chip (regAddr s.params (.iodir (bankOf s.params .ctrl).bank))
            (allIn s.params) ok :: releaseTrace s.params .busrq

/-- `RELEASE` whatever transfers fail: every restore is attempted in order, then BUSRQ is released; the arbiter is
`Released`; the response is the first failure, or `OK`; and when none fails, the four bus-facing banks drive nothing, with
no other bank's registers written when the chips decode their addresses (41_arbiter.md). An active-high BUSRQ is released as
log 18 says. -/
def Obligations.ReleaseWhateverFails : Prop :=
  ∀ s : State, registryOk s.params = true → s.configured = true → NothingHangs 4 s →
    ∃ t oks, exec .release s = .next t ∧ oks.length = 4 ∧
      portActions s t =
        List.zipWith (fun e ok => if ok then e else asFailed e)
          (restoresTrace s.params [.ctrl, .data, .addrHi, .addrLo]) oks ++ releaseTrace s.params .busrq ∧
      (∀ i < 4, oks[i]? = some ((drawAt s i).xfer == .ok)) ∧
      t.response = some (match firstFailure 0 (portActions s t) with
        | some e => errReply false e
        | none => okReply false 0#16 0#8) ∧
      t.arb = .released ∧ ofLine t.lines .busrq = releasedPin s.params .busrq (ofLine s.lines .busrq) ∧
      sameOtherLines .busrq s t ∧ t.params = s.params ∧ t.configured = true ∧ t.pending = s.pending ∧
      sameButDirections s t ∧ busCycles s t = [] ∧
      (TransfersAnswered 4 s →
        (∀ n ∈ [SignalName.ctrl, .data, .addrHi, .addrLo], blockDrive t (bankOf s.params n) = 0x00#8) ∧
        (chipsDecode s = true → ∀ id, bankRegs t.chips id =
          if id ∈ restoreOrder s.params then madeInput s.params (bankRegs s.chips id) else bankRegs s.chips id))

/-- A second `RELEASE` performs its port actions again and changes nothing: the block's state, the expander registers and
what the block drives are as the first left them (41_arbiter.md; 90_conflicts.md C2). -/
def Obligations.ReleaseTwiceChangesNothing : Prop :=
  ∀ s t u : State, s.configured = true → TransfersAnswered 12 s → exec .release s = .next t →
    exec .release t = .next u →
    portActions t u = portActions s t ∧ u.chips = t.chips ∧ u.lines = t.lines ∧ u.arb = t.arb ∧
      u.configured = t.configured ∧ u.pending = t.pending ∧ u.seq = t.seq ∧ u.response = t.response

/-! ## Memory and I/O transactions -/

/-- `READ_MEM` with every transfer answered: its 14 transfers, the one memory read recorded at the `GPIO` read of DATA (after
it, log 37), and the byte of the event as its result; the block's state is as before, and when the chips decode their addresses the four bus-facing banks are
all-input with the latches the transfers wrote, and no other register is written (42_transactions.md section 2). -/
def Obligations.ReadMemResult : Prop :=
  ∀ (s : State) (a : Addr), registryOk s.params = true → s.configured = true → s.arb = .owned →
    TransfersAnswered 14 s →
    ∃ t d, exec (.readMem a) s = .next t ∧ t.response = some (okReply false 0#16 d) ∧
      portActions s t = readMemTrace s.params a d ∧ busCycles s t = [.memRead a d] ∧
      actionsAndCycles s t = driveTrace s.params .addrLo (addrLow a) ++ driveTrace s.params .addrHi (addrHigh a) ++
        strobeTrace s.params (memRdMask s.params) ++ readBankTrace s.params (bankOf s.params .data) d ++
        .memRead a d :: deassertTrace s.params (memRdMask s.params) ++
        restoresTrace s.params [.ctrl, .data, .addrHi, .addrLo] ∧
      sameBlock s t ∧ t.seq = none ∧ sameIocon s t ∧
      (chipsDecode s = true → ∀ id, bankRegs t.chips id =
        if id = bankOf s.params .addrLo then drivenAndRestored s.params (addrLow a) (bankRegs s.chips id)
        else if id = bankOf s.params .addrHi then drivenAndRestored s.params (addrHigh a) (bankRegs s.chips id)
        else if id = bankOf s.params .ctrl then
          drivenAndRestored s.params (ctrlValue s.params 0x00#8) (bankRegs s.chips id)
        else if id = bankOf s.params .data then madeInput s.params (bankRegs s.chips id)
        else bankRegs s.chips id)

/-- `WRITE_MEM` with every transfer answered: its 14 transfers and the one memory write, recorded in the strobe assert, when
the bytes on the bus are all driven and before the de-assert (after its port action, log 37; under `DirFirst`, log 21); the
rest as for `READ_MEM`, with the data bank's latch written (42_transactions.md sections 2 and 3). -/
def Obligations.WriteMemResult : Prop :=
  ∀ (s : State) (a : Addr) (v : Byte), registryOk s.params = true → s.configured = true → s.arb = .owned →
    TransfersAnswered 14 s →
    ∃ t, exec (.writeMem a v) s = .next t ∧ t.response = some (okReply false 0#16 0#8) ∧
      portActions s t = writeMemTrace s.params a v ∧ busCycles s t = [.memWrite a v] ∧
      (∃ asserted ∈ strobeCycleTraces s.params (memWrMask s.params) (.memWrite a v),
        actionsAndCycles s t = driveTrace s.params .addrLo (addrLow a) ++ driveTrace s.params .addrHi (addrHigh a) ++
          driveTrace s.params .data v ++ asserted ++ deassertTrace s.params (memWrMask s.params) ++
          restoresTrace s.params [.ctrl, .data, .addrHi, .addrLo]) ∧
      sameBlock s t ∧ t.seq = none ∧ sameIocon s t ∧
      (chipsDecode s = true → ∀ id, bankRegs t.chips id =
        if id = bankOf s.params .addrLo then drivenAndRestored s.params (addrLow a) (bankRegs s.chips id)
        else if id = bankOf s.params .addrHi then drivenAndRestored s.params (addrHigh a) (bankRegs s.chips id)
        else if id = bankOf s.params .ctrl then
          drivenAndRestored s.params (ctrlValue s.params 0x00#8) (bankRegs s.chips id)
        else if id = bankOf s.params .data then drivenAndRestored s.params v (bankRegs s.chips id)
        else bankRegs s.chips id)

/-- `READ_IO` with every transfer answered: its 11 transfers, the one I/O read recorded at the `GPIO` read of DATA (after it,
log 37), and the byte of the event as its result; the address-high bank's registers are not written (42_transactions.md section 2). -/
def Obligations.ReadIoResult : Prop :=
  ∀ (s : State) (port : Byte), registryOk s.params = true → s.configured = true → s.arb = .owned →
    TransfersAnswered 11 s →
    ∃ t d, exec (.readIo port) s = .next t ∧ t.response = some (okReply false 0#16 d) ∧
      portActions s t = readIoTrace s.params port d ∧ busCycles s t = [.ioRead port d] ∧
      actionsAndCycles s t = driveTrace s.params .addrLo port ++ strobeTrace s.params (ioRdMask s.params) ++
        readBankTrace s.params (bankOf s.params .data) d ++ .ioRead port d :: deassertTrace s.params (ioRdMask s.params) ++
        restoresTrace s.params [.ctrl, .data, .addrLo] ∧
      sameBlock s t ∧ t.seq = none ∧ sameIocon s t ∧
      (chipsDecode s = true → ∀ id, bankRegs t.chips id =
        if id = bankOf s.params .addrLo then drivenAndRestored s.params port (bankRegs s.chips id)
        else if id = bankOf s.params .ctrl then
          drivenAndRestored s.params (ctrlValue s.params 0x00#8) (bankRegs s.chips id)
        else if id = bankOf s.params .data then madeInput s.params (bankRegs s.chips id)
        else bankRegs s.chips id)

/-- `WRITE_IO` with every transfer answered: its 11 transfers and the one I/O write, recorded in the strobe assert (after its
port action, log 37; under `DirFirst`, log 21); the address-high bank's registers are not written (42_transactions.md
sections 2 and 3). -/
def Obligations.WriteIoResult : Prop :=
  ∀ (s : State) (port v : Byte), registryOk s.params = true → s.configured = true → s.arb = .owned →
    TransfersAnswered 11 s →
    ∃ t, exec (.writeIo port v) s = .next t ∧ t.response = some (okReply false 0#16 0#8) ∧
      portActions s t = writeIoTrace s.params port v ∧ busCycles s t = [.ioWrite port v] ∧
      (∃ asserted ∈ strobeCycleTraces s.params (ioWrMask s.params) (.ioWrite port v),
        actionsAndCycles s t = driveTrace s.params .addrLo port ++ driveTrace s.params .data v ++ asserted ++
          deassertTrace s.params (ioWrMask s.params) ++ restoresTrace s.params [.ctrl, .data, .addrLo]) ∧
      sameBlock s t ∧ t.seq = none ∧ sameIocon s t ∧
      (chipsDecode s = true → ∀ id, bankRegs t.chips id =
        if id = bankOf s.params .addrLo then drivenAndRestored s.params port (bankRegs s.chips id)
        else if id = bankOf s.params .ctrl then
          drivenAndRestored s.params (ctrlValue s.params 0x00#8) (bankRegs s.chips id)
        else if id = bankOf s.params .data then drivenAndRestored s.params v (bankRegs s.chips id)
        else bankRegs s.chips id)

/-- One failed transfer before the restores of a transaction or of a probe, whichever it is, still leaves every bank
all-input, and the block's state as it was; the response names it. So does a poll of `GRAB`, when that is the one transfer that
failed; and BUSRQ is released then (42_transactions.md sections 1 and 3; 41_arbiter.md; 60_exceptions.md section 3; an
active-high BUSRQ is released as log 18 says). -/
def Obligations.OneFailureStillTriStates : Prop :=
  (∀ (i : Instr) (s : State) (k : Nat) (v : Byte), registryOk s.params = true → s.configured = true →
    (isTransaction i = true → s.arb = .owned) → atRest s = true →
    k < (match i with
      | .readMem _ => 10
      | .writeMem _ _ => 10
      | .readIo _ => 8
      | .writeIo _ _ => 8
      | .readRawAddr => 4
      | .readRawData => 2
      | .readRawCtrl => 2
      | _ => 0) →
    (drawAt s k).xfer = .err v → (∀ j < 14, j ≠ k → (drawAt s j).xfer = .ok) →
    ∃ t c r, exec i s = .next t ∧ t.response = some (errReply false (.transport c r k)) ∧ atRest t = true ∧
      t.arb = s.arb ∧ sameBlock s t) ∧
  ∀ (s t : State) (c : ChipId) (r : Byte) (k : Nat), s.configured = true → atRest s = true → exec .grab s = .next t →
    t.hung = false → t.response = some (errReply false (.transport c r k)) →
    ((newEvents s t).filter fun e => (failedTransfer e).isSome).length = 1 →
    atRest t = true ∧ t.arb = .released ∧ lineReleased t .busrq = true

/-! ## Probes -/

/-- `READ_RAW ADDR` with every transfer answered: its four transfers, the address of the two bytes read, no bus cycle,
nothing driven, and no ownership asked. The bytes are the levels of the lines: from `CleanOwned` the pull-ups' `0xFFFF`, and
from `CleanConfigured` the address that a CPU driving all its address lines holds (42_transactions.md section 3;
10_state.md section 3). -/
def Obligations.ReadRawAddrResult : Prop :=
  ∀ s : State, registryOk s.params = true → s.configured = true → TransfersAnswered 4 s →
    ∃ t lo hi, exec .readRawAddr s = .next t ∧ t.response = some (okReply false (hi ++ lo) 0#8) ∧
      portActions s t =
        readBankTrace s.params (bankOf s.params .addrLo) lo ++ readBankTrace s.params (bankOf s.params .addrHi) hi ∧
      busCycles s t = [] ∧ sameBlock s t ∧ t.seq = none ∧ sameButDirections s t ∧
      (∀ n ∈ [SignalName.addrLo, .addrHi], blockDrive t (bankOf s.params n) = 0x00#8) ∧
      (chipsDecode s = true → ∀ id, bankRegs t.chips id =
        if id = bankOf s.params .addrLo ∨ id = bankOf s.params .addrHi then madeInput s.params (bankRegs s.chips id)
        else bankRegs s.chips id) ∧
      (cleanOwned s = true → defaultWiring s.params = true → hi ++ lo = 0xFFFF#16) ∧
      (cleanConfigured s = true → defaultWiring s.params = true →
        (drawAt s 1).banks.a0.drive = 0xFF#8 → (drawAt s 3).banks.b0.drive = 0xFF#8 →
        lo = (drawAt s 1).banks.a0.level ∧ hi = (drawAt s 3).banks.b0.level)

/-- `READ_RAW DATA` and `READ_RAW CTRL` with every transfer answered: two transfers, the byte read in `d8`. It is the levels
of the lines: from `CleanOwned` with no driver on D0 to D7 the pull-ups' `0xFF`, and a control byte with BUSAK Active and
every strobe Inactive (42_transactions.md section 3; 10_state.md section 3). -/
def Obligations.ReadRawBankResult : Prop :=
  ∀ (i : Instr) (n : SignalName) (s : State), (i = .readRawData ∧ n = .data) ∨ (i = .readRawCtrl ∧ n = .ctrl) →
    registryOk s.params = true → s.configured = true → TransfersAnswered 2 s →
    ∃ t v, exec i s = .next t ∧ t.response = some (okReply false 0#16 v) ∧
      portActions s t = readBankTrace s.params (bankOf s.params n) v ∧ busCycles s t = [] ∧ sameBlock s t ∧
      t.seq = none ∧ sameButDirections s t ∧ blockDrive t (bankOf s.params n) = 0x00#8 ∧
      (chipsDecode s = true → ∀ id, bankRegs t.chips id =
        if id = bankOf s.params n then madeInput s.params (bankRegs s.chips id) else bankRegs s.chips id) ∧
      (cleanOwned s = true → defaultWiring s.params = true →
        (n = .data → v = 0xFF#8) ∧ (n = .ctrl → v &&& 0x1F#8 = 0x1E#8))

/-! ## Debug extensions -/

/-- `SET_WAIT` asserts or releases WAIT and does nothing else (43_debug.md). An active-high WAIT is released as log 18
says. -/
def Obligations.SetWaitResult : Prop :=
  ∀ (s : State) (active : Bool), registryOk s.params = true → s.configured = true →
    ∃ t, exec (.setWait active) s = .next t ∧ t.response = some (okReply false 0#16 0#8) ∧
      portActions s t = (if active then assertTrace s.params .wait else releaseTrace s.params .wait) ∧
      ofLine t.lines .wait =
        (if active then assertedPin s.params .wait (ofLine s.lines .wait)
         else releasedPin s.params .wait (ofLine s.lines .wait)) ∧
      sameOtherLines .wait s t ∧ t.chips = s.chips ∧ t.arb = s.arb ∧ t.configured = true ∧ t.pending = s.pending ∧
      t.params = s.params ∧ busCycles s t = [] ∧ t.seq = none

/-- The `CONTROL_LINE` codes: 0, 1 and 2 act on RESET, INT and NMI, held Active or pulsed; any other code is
`UnknownSignal` with `d8 = signal`, before any other check and with no other effect (30_encoding.md section 1;
43_debug.md). How an active-high line is released is the model's (log 18). -/
def Obligations.ControlLineResult : Prop :=
  ∀ (s : State) (signal : Byte) (pulse : Bool), registryOk s.params = true →
    (3 ≤ signal.toNat → ∃ r, exec (.controlLine signal pulse) s = .next (answered s r) ∧
      replyStatus r = 0x01#8 ∧ replyD8 r = signal ∧ replyD16 r = 0#16 ∧ replyWarn r = false) ∧
    ∀ l, [Line.reset, .int, .nmi][signal.toNat]? = some l → s.configured = true →
      ∃ t, exec (.controlLine signal pulse) s = .next t ∧ t.response = some (okReply false 0#16 0#8) ∧
        portActions s t = assertTrace s.params l ++ (if pulse then releaseTrace s.params l else []) ∧
        ofLine t.lines l =
          (if pulse then releasedPin s.params l (assertedPin s.params l (ofLine s.lines l))
           else assertedPin s.params l (ofLine s.lines l)) ∧
        sameOtherLines l s t ∧ t.chips = s.chips ∧ t.arb = s.arb ∧ t.configured = true ∧ t.pending = s.pending ∧
        t.params = s.params ∧ busCycles s t = [] ∧ t.seq = none

/-- A pulse of RESET takes the bus grant away, and the CPU's next instruction fetch is at address 0; RESET held Active
takes the grant away too and holds the CPU in reset. A CPU in reset fetches from address 0 next once RESET is found Inactive,
whatever ended it (10_state.md section 4; 43_debug.md; that the coming fetch is kept as state is the model's, log 19). -/
def Obligations.ResetPulseRestartsCpu : Prop :=
  (∀ (s : State) (active : Bool), registryOk s.params = true → s.configured = true → s.cpu.inReset = true →
    activeLevel s.params .reset = false → s.lines.reset.dir = .input → s.lines.reset.pullUp = true →
    (∀ k < 2, (drawAt s k).cpuFetch = false) →
    ∃ t, exec (.setWait active) s = .next t ∧ t.cpu.inReset = false ∧ t.cpu.fetchFromZero = true) ∧
  ∀ (s : State) (pulse : Bool), registryOk s.params = true → s.configured = true →
    activeLevel s.params .reset = false → s.lines.reset.pullUp = true →
    ∃ t, exec (.controlLine 0x00#8 pulse) s = .next t ∧ t.cpu.granted = false ∧ t.cpu.inReset = !pulse ∧
      (pulse = true → t.cpu.fetchFromZero = true)

/-- `SINGLE_STEP` from `CleanConfigured`, with every transfer answered and both grants taken at the first poll: the whole
sequence of port actions and memory cycles, the sampled address and byte as its result, no fault recorded, the bus
Released, the snapshot dropped, and the saved bytes back at addresses 0 to 2 (43_debug.md; 95_test_vectors.md
section 2.6; 93_implementation_defined.md item 4). Stores under `Free` are the model's (log 13), and so is it that a CPU
which is not granted records no fault (log 6). -/
def Obligations.SingleStepResult : Prop :=
  ∀ (s : State) (target : Addr), cleanConfigured s = true → defaultWiring s.params = true →
    1 ≤ s.params.grabPollLimit → (∀ i < 156, (drawAt s i).xfer = .ok ∧ (drawAt s i).cpuMove = true) →
    ∃ t b0 b1 b2 v v' lo hi d, exec (.singleStep target) s = .next t ∧
      t.response = some (okReply false (hi ++ lo) d) ∧
      portActions s t = grabOnceTrace s.params v ++ readMemTrace s.params 0#16 b0 ++ readMemTrace s.params 1#16 b1 ++
        readMemTrace s.params 2#16 b2 ++ jumpAndRestoreTrace s.params target b0 b1 b2 lo hi d v' ∧
      busCycles s t =
        [.memRead 0#16 b0, .memRead 1#16 b1, .memRead 2#16 b2] ++ jumpAndRestoreCycles target b0 b1 b2 ∧
      noNewFault s t = true ∧ t.configured = true ∧ t.arb = .released ∧ t.pending = none ∧ t.seq = none ∧
      lineReleased t .busrq = true ∧ lineReleased t .reset = true ∧
      (lineAsserted t .wait = true ↔ s.params.ssWaitRelease = false) ∧ chipsClean t = true ∧
      memRead t.mem 0 = some b0 ∧ memRead t.mem 1 = some b1 ∧ memRead t.mem 2 = some b2

/-- The same with a CPU and bus that are otherwise quiet, under `SimMem`: the bytes at addresses 0 to 2 are the ones that
were there, and every other byte of memory is unchanged (43_debug.md; 10_state.md section 4). -/
def Obligations.SingleStepMemory : Prop :=
  ∀ (s : State) (target : Addr), cleanConfigured s = true → defaultWiring s.params = true →
    s.params.oracle = .simMem → 1 ≤ s.params.grabPollLimit →
    (∀ i < 156, (drawAt s i).xfer = .ok ∧ (drawAt s i).cpuMove = true ∧ quietDraw s.params (drawAt s i)) →
    ∃ t, exec (.singleStep target) s = .next t ∧ (∀ a, 3 ≤ a → memRead t.mem a = memRead s.mem a) ∧
      ∀ a < 3, ∀ b, memRead s.mem a = some b → memRead t.mem a = some b

/-- A retried `SINGLE_STEP` reads nothing: it writes the jump and then puts back the bytes of the snapshot that was
pending (43_debug.md; 93_implementation_defined.md item 4). Stores under `Free` are the model's (log 13), and so is it that
a CPU which is not granted records no fault (log 6). -/
def Obligations.SingleStepRetry : Prop :=
  ∀ (s : State) (target : Addr) (snap : Snapshot), cleanConfigured { s with pending := none } = true →
    s.pending = some snap → defaultWiring s.params = true → 1 ≤ s.params.grabPollLimit →
    (∀ i < 156, (drawAt s i).xfer = .ok ∧ (drawAt s i).cpuMove = true) →
    ∃ t v v' lo hi d, exec (.singleStep target) s = .next t ∧ t.response = some (okReply false (hi ++ lo) d) ∧
      portActions s t = grabOnceTrace s.params v ++
        jumpAndRestoreTrace s.params target snap.saved0 snap.saved1 snap.saved2 lo hi d v' ∧
      busCycles s t = jumpAndRestoreCycles target snap.saved0 snap.saved1 snap.saved2 ∧
      noNewFault s t = true ∧ t.pending = none ∧ t.arb = .released ∧
      memRead t.mem 0 = some snap.saved0 ∧ memRead t.mem 1 = some snap.saved1 ∧ memRead t.mem 2 = some snap.saved2

/-- The saved bytes of a pending snapshot are never lost: whatever the instruction and whatever fails, the snapshot stays,
with the target of a newer `SINGLE_STEP` at most, until a `SINGLE_STEP` has written each byte back to its own address as
its last memory cycles (43_debug.md). -/
def Obligations.SavedBytesAreKept : Prop :=
  ∀ (i : Instr) (s t : State) (snap : Snapshot), exec i s = .next t → s.pending = some snap →
    t.pending = some snap ∨ (∃ target, i = .singleStep target ∧ t.pending = some { snap with jumpTarget := target }) ∨
      (∃ target before, i = .singleStep target ∧ t.pending = none ∧ busCycles s t = before ++
        [.memWrite 0#16 snap.saved0, .memWrite 1#16 snap.saved1, .memWrite 2#16 snap.saved2])

/-- No byte of memory is overwritten by `SINGLE_STEP` without its original being held, whatever fails: the command ends with
no memory write and no snapshot; or it read the three bytes first, and the snapshot of them is pending at its end; or it
dropped the snapshot, and then it wrote the jump and put each byte back at its own address. Once its `grab` owns the bus and
the three reads are through, the snapshot is kept or the bytes are back, whatever fails or hangs after them. And whatever
fails, with or without a snapshot, the command has let the bus go when it answers (43_debug.md; an active-high BUSRQ is
released as log 18 says). -/
def Obligations.SnapshotBeforeOverwrite : Prop :=
  (∀ (s t : State) (target : Addr), exec (.singleStep target) s = .next t → s.pending = none →
    ((∀ a v, Event.memWrite a v ∉ busCycles s t) ∧ t.pending = none) ∨
    ∃ b0 b1 b2 rest, busCycles s t = [.memRead 0#16 b0, .memRead 1#16 b1, .memRead 2#16 b2] ++ rest ∧
      (t.pending = some ⟨b0, b1, b2, target⟩ ∨ (t.pending = none ∧ rest = jumpAndRestoreCycles target b0 b1 b2))) ∧
  (∀ (s g : State) (target : Addr), registryOk s.params = true → s.configured = true → s.pending = none →
    grabOp (setSeq (some (freshSeq (.singleStep target))) s) = (.ok (), g) → TransfersAnswered 42 g →
    ∃ t b0 b1 b2 rest, exec (.singleStep target) s = .next t ∧
      busCycles s t = [.memRead 0#16 b0, .memRead 1#16 b1, .memRead 2#16 b2] ++ rest ∧
      (t.pending = some ⟨b0, b1, b2, target⟩ ∨ (t.pending = none ∧ rest = jumpAndRestoreCycles target b0 b1 b2))) ∧
  ∀ (s t : State) (target : Addr), s.configured = true → exec (.singleStep target) s = .next t → t.hung = false →
    t.arb = .released ∧ lineReleased t .busrq = true

/-! ## Micro-ops -/

/-- `READ_BANK`, with its two transfers answered: the direction write, the read, the byte returned, the bank tri-stated
(40_bank_driver.md section 2). -/
def Obligations.ReadBankResult : Prop :=
  ∀ (s : State) (code : BitVec 2) (c : ChipId) (k : Bank), registryOk s.params = true → chipOfCode code = some c →
    chipPresent s.params.numChips c = true → TransfersAnswered 2 s →
    ∃ t v, exec (.readBank code k) s = .next t ∧ t.uopResult = some (.value v) ∧
      portActions s t = readBankTrace s.params ⟨c, k⟩ v ∧ busCycles s t = [] ∧ sameBlock s t ∧ sameButDirections s t ∧
      blockDrive t ⟨c, k⟩ = 0x00#8 ∧ t.response = s.response ∧
      (chipsDecode s = true → ∀ id, bankRegs t.chips id =
        if id = ⟨c, k⟩ then madeInput s.params (bankRegs s.chips id) else bankRegs s.chips id)

/-- `WRITE_BANK`, with its two transfers answered: the two writes in the order of `P_WRITE_ORDER`, and exactly the bits of
the mask driven with the value's bits (40_bank_driver.md section 2). -/
def Obligations.WriteBankResult : Prop :=
  ∀ (s : State) (code : BitVec 2) (c : ChipId) (k : Bank) (value mask : Byte), registryOk s.params = true →
    chipOfCode code = some c → chipPresent s.params.numChips c = true → TransfersAnswered 2 s →
    ∃ t, exec (.writeBank code k value mask) s = .next t ∧ t.uopResult = some .done ∧
      portActions s t = writeBankTrace s.params ⟨c, k⟩ value mask ∧ busCycles s t = [] ∧ sameBlock s t ∧
      sameIocon s t ∧ blockDrive t ⟨c, k⟩ = mask ∧ (bankRegs t.chips ⟨c, k⟩).olat = value ∧ t.response = s.response ∧
      (chipsDecode s = true → ∀ id, bankRegs t.chips id =
        if id = ⟨c, k⟩ then { bankRegs s.chips id with iodir := dirVal s.params mask, olat := value }
        else bankRegs s.chips id)

/-- `RESTORE_BANK`: one transfer, the bank tri-stated and its latch kept; when the transfer fails, its register and no
other holds any value, and the micro-op returns the error (40_bank_driver.md section 2; the step index of a micro-op given
on its own is the model's, log 25). -/
def Obligations.RestoreBankResult : Prop :=
  ∀ (s : State) (code : BitVec 2) (c : ChipId) (k : Bank), registryOk s.params = true → chipOfCode code = some c →
    chipPresent s.params.numChips c = true →
    ((drawAt s 0).xfer = .ok → ∃ t, exec (.restoreBank code k) s = .next t ∧ t.uopResult = some .done ∧
      portActions s t = restoreTrace s.params ⟨c, k⟩ ∧ busCycles s t = [] ∧ sameBlock s t ∧ sameButDirections s t ∧
      blockDrive t ⟨c, k⟩ = 0x00#8 ∧ t.response = s.response ∧
      (chipsDecode s = true → ∀ id, bankRegs t.chips id =
        if id = ⟨c, k⟩ then madeInput s.params (bankRegs s.chips id) else bankRegs s.chips id)) ∧
    ∀ v, (drawAt s 0).xfer = .err v → s.seq = none → ∃ t, exec (.restoreBank code k) s = .next t ∧
      t.uopResult = some (.error (.transport c (regAddr s.params (.iodir k)) 0)) ∧
      portActions s t = (restoreTrace s.params ⟨c, k⟩).map asFailed ∧ sameBlock s t ∧ sameIocon s t ∧
      ∀ id, bankRegs t.chips id = if id = ⟨c, k⟩ then { bankRegs s.chips id with iodir := v } else bankRegs s.chips id

/-- `LINE_ASSERT`: the level written, then the pin made an output; the pin drives the Active level, and nothing else of
the block changes (R171). -/
def Obligations.LineAssertResult : Prop :=
  ∀ (s : State) (code : BitVec 3) (l : Line), registryOk s.params = true → lineOfCode code = some l →
    ∃ t, exec (.lineAssert code) s = .next t ∧ t.uopResult = some .done ∧
      portActions s t =
        [.gpioW (gpioPin s.params l) (activeLevel s.params (lineSignal l)),
          .gpioDir (gpioPin s.params l) .output] ∧
      ofLine t.lines l =
        { ofLine s.lines l with dir := .output, out := activeLevel s.params (lineSignal l) } ∧
      (∀ d, lineLevel t d l = activeLevel s.params (lineSignal l)) ∧
      lineAsserted t l = true ∧ (lineAsserted s l = true → t.lines = s.lines) ∧ sameOtherLines l s t ∧
      t.chips = s.chips ∧ t.arb = s.arb ∧ t.configured = s.configured ∧ t.pending = s.pending ∧
      t.response = s.response ∧ busCycles s t = []

/-- `LINE_RELEASE`: the pin made an input, where its pull-up holds an active-low line Inactive; an active-high line is
driven Inactive instead (R172; log 18). -/
def Obligations.LineReleaseResult : Prop :=
  ∀ (s : State) (code : BitVec 3) (l : Line), registryOk s.params = true → lineOfCode code = some l →
    ∃ t, exec (.lineRelease code) s = .next t ∧ t.uopResult = some .done ∧
      (activeLevel s.params (lineSignal l) = false →
        portActions s t = [.gpioDir (gpioPin s.params l) .input] ∧
        ofLine t.lines l = { ofLine s.lines l with dir := .input } ∧
        ((ofLine s.lines l).pullUp = true → ∀ d, lineLevel t d l = true) ∧
        ((ofLine s.lines l).dir = .input → t.lines = s.lines)) ∧
      (activeLevel s.params (lineSignal l) = true →
        portActions s t =
          [.gpioW (gpioPin s.params l) false, .gpioDir (gpioPin s.params l) .output] ∧
        ofLine t.lines l = { ofLine s.lines l with dir := .output, out := false } ∧
        ∀ d, lineLevel t d l = false) ∧
      sameOtherLines l s t ∧ t.chips = s.chips ∧ t.arb = s.arb ∧ t.configured = s.configured ∧ t.pending = s.pending ∧
      t.response = s.response ∧ busCycles s t = []

/-! ## Memory -/

/-- From `CleanOwned`, `WRITE_MEM` stores its byte at its address and leaves every other byte of memory as it was
(42_transactions.md section 2; 10_state.md section 4; that the store happens under `Free` too is the model's, log 13). -/
def Obligations.WriteMemStoresOneByte : Prop :=
  ∀ (s : State) (a : Addr) (v : Byte), cleanOwned s = true → defaultWiring s.params = true → TransfersAnswered 14 s →
    ∃ t, exec (.writeMem a v) s = .next t ∧ memRead t.mem a.toNat = some v ∧
      ∀ x, x ≠ a.toNat → memRead t.mem x = memRead s.mem x

/-- From `CleanOwned` under `SimMem`, `READ_MEM` returns the byte of memory at its address, and no other byte of memory
changes; a byte nothing had determined is determined by the read (10_state.md section 4; log 13). -/
def Obligations.ReadMemReturnsMemory : Prop :=
  ∀ (s : State) (a : Addr), cleanOwned s = true → defaultWiring s.params = true → s.params.oracle = .simMem →
    TransfersAnswered 14 s →
    ∃ t d, exec (.readMem a) s = .next t ∧ t.response = some (okReply false 0#16 d) ∧
      (∀ v, memRead s.mem a.toNat = some v → d = v) ∧ memRead t.mem a.toNat = some d ∧
      ∀ x, x ≠ a.toNat → memRead t.mem x = memRead s.mem x

/-- The round-trip law under `SimMem`, from the launch premise `CleanOwned` (R98, R379): a byte written is the byte read
back, for every address and every byte, when no transfer fails. -/
def Obligations.WriteThenReadRoundTrip : Prop :=
  ∀ (s : State) (a : Addr) (v : Byte), cleanOwned s = true → defaultWiring s.params = true →
    s.params.oracle = .simMem → TransfersAnswered 28 s →
    ∃ t u, exec (.writeMem a v) s = .next t ∧ exec (.readMem a) t = .next u ∧
      t.response = some (okReply false 0#16 0#8) ∧ u.response = some (okReply false 0#16 v)

/-- From `CleanOwned`, the commands that store nothing leave every byte of memory as it was; only a `READ_MEM` of a byte
that nothing had determined determines it (10_state.md section 4; log 13). -/
def Obligations.OwnedCommandsKeepMemory : Prop :=
  ∀ (i : Instr) (s : State), cleanOwned s = true → defaultWiring s.params = true → TransfersAnswered 14 s →
    (match i with
      | .grab => True
      | .readMem _ => True
      | .readIo _ => True
      | .writeIo _ _ => True
      | .readRawAddr => True
      | .readRawData => True
      | .readRawCtrl => True
      | .setWait _ => True
      | .controlLine signal _ => signal ≠ 0x00#8
      | _ => False) →
    ∃ t, exec i s = .next t ∧ ∀ x : Nat, memRead t.mem x = memRead s.mem x ∨
      (memRead s.mem x = none ∧ ∃ a, i = .readMem a ∧ a.toNat = x)

/-- With an environment that makes no cycle of its own, and the control bank undriven, no command or micro-op but the two
memory transactions, `SINGLE_STEP` and a `WRITE_BANK` that can drive MREQ changes memory at all (10_state.md section 4). -/
def Obligations.QuietCommandsKeepMemory : Prop :=
  ∀ (i : Instr) (s t : State), defaultWiring s.params = true → ctrlUndriven s →
    (∀ k < 40 + 2 * s.params.grabPollLimit, (drawAt s k).xfer = .ok ∧ quietDraw s.params (drawAt s k)) →
    (match i with
      | .configure => True
      | .grab => True
      | .release => True
      | .readIo _ => True
      | .writeIo _ _ => True
      | .readRawAddr => True
      | .readRawData => True
      | .readRawCtrl => True
      | .setWait _ => True
      | .controlLine _ _ => True
      | .readBank _ _ => True
      | .writeBank _ _ _ mask => mask &&& 0x10#8 = 0x00#8
      | .restoreBank _ _ => True
      | .lineAssert _ => True
      | .lineRelease _ => True
      | _ => False) →
    exec i s = .next t → t.mem = s.mem

/-! ## Frames, invariants and whole-machine rules -/

/-- What no instruction but the ones named changes: the parameters by none; `S.configured` by `CONFIGURE`; `S.arb` by
`CONFIGURE`, `GRAB`, `RELEASE` and `SINGLE_STEP`; `S.pending` by `SINGLE_STEP`; a discrete pin by the instructions that
act on it (10_state.md section 1; 41_arbiter.md). -/
def Obligations.BlockStateFrame : Prop :=
  ∀ (i : Instr) (s t : State), exec i s = .next t →
    t.params = s.params ∧ (i ≠ .configure → t.configured = s.configured) ∧
      ((∀ target, i ≠ .singleStep target) → t.pending = s.pending) ∧
      (i ≠ .configure → i ≠ .grab → i ≠ .release → (∀ target, i ≠ .singleStep target) → t.arb = s.arb) ∧
      (∀ l, mayWriteLine i l = false → ofLine t.lines l = ofLine s.lines l) ∧
      t.cmdPort = s.cmdPort ∧ t.uopPort = s.uopPort ∧ (isCommand i = true → t.uopResult = s.uopResult) ∧
      (isCommand i = false → t.response = s.response)

/-- What no instruction but the ones named changes in the expanders, whatever transfers fail: `IOCON`, `IPOL` and `GPPU`
by `CONFIGURE`; `OLAT` by the transactions, `SINGLE_STEP` and `WRITE_BANK`; no register at all by the instructions made of
GPIO actions; the interrupt-enable registers by none (40_bank_driver.md section 2; 60_exceptions.md section 5). -/
def Obligations.ExpanderRegisterFrame : Prop :=
  ∀ (i : Instr) (s t : State), exec i s = .next t →
    (∀ id, (bankRegs t.chips id).gpinten = (bankRegs s.chips id).gpinten) ∧
      (i ≠ .configure → sameIocon s t ∧ ∀ id, (bankRegs t.chips id).ipol = (bankRegs s.chips id).ipol ∧
        (bankRegs t.chips id).gppu = (bankRegs s.chips id).gppu) ∧
      ((match i with
        | .readMem _ => False
        | .writeMem _ _ => False
        | .readIo _ => False
        | .writeIo _ _ => False
        | .singleStep _ => False
        | .writeBank _ _ _ _ => False
        | _ => True) → ∀ id, (bankRegs t.chips id).olat = (bankRegs s.chips id).olat) ∧
      ((match i with
        | .setWait _ => True
        | .controlLine _ _ => True
        | .lineAssert _ => True
        | .lineRelease _ => True
        | _ => False) → t.chips = s.chips)

/-- The event history only grows, so a recorded fault is never cleared (10_state.md section 5). -/
def Obligations.HistoryOnlyGrows : Prop :=
  ∀ s t : State, step s = .next t → s.history <+: t.history

/-- Every step keeps the canonical form of the memory (20_memory.md section 1). -/
def Obligations.StepKeepsMemoryCanonical : Prop :=
  ∀ s t : State, Memory.wf s.mem → step s = .next t → Memory.wf t.mem

/-- The ownership invariant: every step of the command port keeps BUSRQ asserted while the arbiter is `Owned`, whatever
fails (R50). -/
def Obligations.StepKeepsOwnershipInvariant : Prop :=
  ∀ s t : State, s.uopPort = none → ownershipHolds s → step s = .next t → t.uopPort = none ∧ ownershipHolds t

/-- The rest invariant: a successful `CONFIGURE` makes every bank of every chip all-input with its pull-ups on, from any
state, and every later command none of whose transfers failed leaves them so (R49). -/
def Obligations.StepKeepsRestInvariant : Prop :=
  (∀ s t : State, exec .configure s = .next t → t.configured = true → atRest t = true) ∧
    ∀ s t : State, s.uopPort = none → (s.configured = true → atRest s = true) → step s = .next t → t.hung = false →
      noNewFailure s t = true → t.uopPort = none ∧ (t.configured = true → atRest t = true)

/-- The block never contends with a granted CPU: from `CleanOwned`, a transaction, a probe or a repeated `GRAB` with its
transfers answered records no fault and leaves `CleanOwned` again, under every write order and oracle (10_state.md
section 5; 70_reset_and_hazards.md section 4). -/
def Obligations.OwnedCommandsStayClean : Prop :=
  ∀ (i : Instr) (s : State), cleanOwned s = true → defaultWiring s.params = true → TransfersAnswered 14 s →
    (match i with
      | .grab => True
      | .readMem _ => True
      | .writeMem _ _ => True
      | .readIo _ => True
      | .writeIo _ _ => True
      | .readRawAddr => True
      | .readRawData => True
      | .readRawCtrl => True
      | _ => False) →
    ∃ t, exec i s = .next t ∧ noNewFault s t = true ∧ cleanOwned t = true

/-- The hazard of RESET while the bus is owned: when the CPU has lost its grant and drives the address lines, the drive of
ADDR_LO by each of the four transactions is recorded as a Contention fault, and the block answers `OK` all the same. And the
hazard of a bank left driven: as soon as a CPU that runs drives a strobe that the block drives, Contention is recorded on that
line, although the next port action lets the bank go, and whatever becomes of that action (70_reset_and_hazards.md section 3;
that the fault is found before the next port action is the model's, log 38). -/
def Obligations.LostGrantGivesContention : Prop :=
  (∀ (s : State), s.configured = true → defaultWiring s.params = true → s.cpu.granted = false →
    (drawAt s 0).cpuMove = false →
    blockDrive s ⟨.chip1, .portB⟩ &&& 0x1E#8 &&& (drawAt s 0).between.b1.drive ≠ 0x00#8 →
    ∃ t m, exec .readRawCtrl s = .next t ∧ Event.contention ⟨.chip1, .portB⟩ m ∈ newEvents s t ∧
      blockDrive s ⟨.chip1, .portB⟩ &&& 0x1E#8 &&& (drawAt s 0).between.b1.drive &&& ~~~m = 0x00#8) ∧
  ∀ (i : Instr) (s : State), isTransaction i = true → s.configured = true → s.arb = .owned → chipsClean s = true →
    defaultWiring s.params = true → s.cpu.granted = false → TransfersAnswered 14 s →
    (∀ k < 14, (drawAt s k).cpuMove = false ∧ (drawAt s k).banks.a0.drive = 0xFF#8) →
    ∃ t d, exec i s = .next t ∧ t.response = some (okReply false 0#16 d) ∧
      Event.contention ⟨.chip0, .portA⟩ 0xFF#8 ∈ newEvents s t

/-- The response reports the first failed transfer of the command, with its index among the command's port actions, and a
command none of whose transfers failed reports no transport error (60_exceptions.md section 2; 30_encoding.md
section 2). -/
def Obligations.FirstFailureIsReported : Prop :=
  ∀ (i : Instr) (s t : State), isCommand i = true → s.hung = false → exec i s = .next t → t.hung = false →
    (∀ e, firstFailure 0 (portActions s t) = some e → ∃ w, t.response = some (errReply w e)) ∧
      (firstFailure 0 (portActions s t) = none → ∀ r, t.response = some r → replyStatus r ≠ 0x04#8)
end

