-- ==== Sys2Proof/Laws/State.lean ====
section
/-! SUPPORT. What each named update of the state does to each of its fields: one lemma per field per update. -/

namespace Sys2Proof.Machine

variable (s : State)

/-! ### record -/

@[simp] theorem record_params (e : Event) : (record e s).params = s.params := rfl
@[simp] theorem record_configured (e : Event) : (record e s).configured = s.configured := rfl
@[simp] theorem record_arb (e : Event) : (record e s).arb = s.arb := rfl
@[simp] theorem record_pending (e : Event) : (record e s).pending = s.pending := rfl
@[simp] theorem record_lines (e : Event) : (record e s).lines = s.lines := rfl
@[simp] theorem record_seq (e : Event) : (record e s).seq = s.seq := rfl
@[simp] theorem record_chips (e : Event) : (record e s).chips = s.chips := rfl
@[simp] theorem record_cpu (e : Event) : (record e s).cpu = s.cpu := rfl
@[simp] theorem record_mem (e : Event) : (record e s).mem = s.mem := rfl
@[simp] theorem record_cycle (e : Event) : (record e s).cycle = s.cycle := rfl
@[simp] theorem record_history (e : Event) : (record e s).history = s.history ++ [e] := rfl
@[simp] theorem record_cmdPort (e : Event) : (record e s).cmdPort = s.cmdPort := rfl
@[simp] theorem record_response (e : Event) : (record e s).response = s.response := rfl
@[simp] theorem record_uopPort (e : Event) : (record e s).uopPort = s.uopPort := rfl
@[simp] theorem record_uopResult (e : Event) : (record e s).uopResult = s.uopResult := rfl
@[simp] theorem record_hung (e : Event) : (record e s).hung = s.hung := rfl
@[simp] theorem record_script (e : Event) : (record e s).script = s.script := rfl
@[simp] theorem record_draws (e : Event) : (record e s).draws = s.draws := rfl

/-! ### setSeq -/

@[simp] theorem setSeq_params (q : Option Sequencer) : (setSeq q s).params = s.params := rfl
@[simp] theorem setSeq_configured (q : Option Sequencer) : (setSeq q s).configured = s.configured := rfl
@[simp] theorem setSeq_arb (q : Option Sequencer) : (setSeq q s).arb = s.arb := rfl
@[simp] theorem setSeq_pending (q : Option Sequencer) : (setSeq q s).pending = s.pending := rfl
@[simp] theorem setSeq_lines (q : Option Sequencer) : (setSeq q s).lines = s.lines := rfl
@[simp] theorem setSeq_seq (q : Option Sequencer) : (setSeq q s).seq = q := rfl
@[simp] theorem setSeq_chips (q : Option Sequencer) : (setSeq q s).chips = s.chips := rfl
@[simp] theorem setSeq_cpu (q : Option Sequencer) : (setSeq q s).cpu = s.cpu := rfl
@[simp] theorem setSeq_mem (q : Option Sequencer) : (setSeq q s).mem = s.mem := rfl
@[simp] theorem setSeq_cycle (q : Option Sequencer) : (setSeq q s).cycle = s.cycle := rfl
@[simp] theorem setSeq_history (q : Option Sequencer) : (setSeq q s).history = s.history := rfl
@[simp] theorem setSeq_cmdPort (q : Option Sequencer) : (setSeq q s).cmdPort = s.cmdPort := rfl
@[simp] theorem setSeq_response (q : Option Sequencer) : (setSeq q s).response = s.response := rfl
@[simp] theorem setSeq_uopPort (q : Option Sequencer) : (setSeq q s).uopPort = s.uopPort := rfl
@[simp] theorem setSeq_uopResult (q : Option Sequencer) : (setSeq q s).uopResult = s.uopResult := rfl
@[simp] theorem setSeq_hung (q : Option Sequencer) : (setSeq q s).hung = s.hung := rfl
@[simp] theorem setSeq_script (q : Option Sequencer) : (setSeq q s).script = s.script := rfl
@[simp] theorem setSeq_draws (q : Option Sequencer) : (setSeq q s).draws = s.draws := rfl

/-! ### modifySeq -/

@[simp] theorem modifySeq_params (f : Sequencer → Sequencer) : (modifySeq f s).params = s.params := rfl
@[simp] theorem modifySeq_configured (f : Sequencer → Sequencer) : (modifySeq f s).configured = s.configured := rfl
@[simp] theorem modifySeq_arb (f : Sequencer → Sequencer) : (modifySeq f s).arb = s.arb := rfl
@[simp] theorem modifySeq_pending (f : Sequencer → Sequencer) : (modifySeq f s).pending = s.pending := rfl
@[simp] theorem modifySeq_lines (f : Sequencer → Sequencer) : (modifySeq f s).lines = s.lines := rfl
@[simp] theorem modifySeq_seq (f : Sequencer → Sequencer) : (modifySeq f s).seq = s.seq.map f := rfl
@[simp] theorem modifySeq_chips (f : Sequencer → Sequencer) : (modifySeq f s).chips = s.chips := rfl
@[simp] theorem modifySeq_cpu (f : Sequencer → Sequencer) : (modifySeq f s).cpu = s.cpu := rfl
@[simp] theorem modifySeq_mem (f : Sequencer → Sequencer) : (modifySeq f s).mem = s.mem := rfl
@[simp] theorem modifySeq_cycle (f : Sequencer → Sequencer) : (modifySeq f s).cycle = s.cycle := rfl
@[simp] theorem modifySeq_history (f : Sequencer → Sequencer) : (modifySeq f s).history = s.history := rfl
@[simp] theorem modifySeq_cmdPort (f : Sequencer → Sequencer) : (modifySeq f s).cmdPort = s.cmdPort := rfl
@[simp] theorem modifySeq_response (f : Sequencer → Sequencer) : (modifySeq f s).response = s.response := rfl
@[simp] theorem modifySeq_uopPort (f : Sequencer → Sequencer) : (modifySeq f s).uopPort = s.uopPort := rfl
@[simp] theorem modifySeq_uopResult (f : Sequencer → Sequencer) : (modifySeq f s).uopResult = s.uopResult := rfl
@[simp] theorem modifySeq_hung (f : Sequencer → Sequencer) : (modifySeq f s).hung = s.hung := rfl
@[simp] theorem modifySeq_script (f : Sequencer → Sequencer) : (modifySeq f s).script = s.script := rfl
@[simp] theorem modifySeq_draws (f : Sequencer → Sequencer) : (modifySeq f s).draws = s.draws := rfl

/-! ### tick -/

@[simp] theorem tick_params : (tick s).params = s.params := rfl
@[simp] theorem tick_configured : (tick s).configured = s.configured := rfl
@[simp] theorem tick_arb : (tick s).arb = s.arb := rfl
@[simp] theorem tick_pending : (tick s).pending = s.pending := rfl
@[simp] theorem tick_lines : (tick s).lines = s.lines := rfl
@[simp] theorem tick_seq : (tick s).seq = s.seq.map fun q => { q with k := q.k + 1 } := rfl
@[simp] theorem tick_chips : (tick s).chips = s.chips := rfl
@[simp] theorem tick_cpu : (tick s).cpu = s.cpu := rfl
@[simp] theorem tick_mem : (tick s).mem = s.mem := rfl
@[simp] theorem tick_cycle : (tick s).cycle = s.cycle := rfl
@[simp] theorem tick_history : (tick s).history = s.history := rfl
@[simp] theorem tick_cmdPort : (tick s).cmdPort = s.cmdPort := rfl
@[simp] theorem tick_response : (tick s).response = s.response := rfl
@[simp] theorem tick_uopPort : (tick s).uopPort = s.uopPort := rfl
@[simp] theorem tick_uopResult : (tick s).uopResult = s.uopResult := rfl
@[simp] theorem tick_hung : (tick s).hung = s.hung := rfl
@[simp] theorem tick_script : (tick s).script = s.script := rfl
@[simp] theorem tick_draws : (tick s).draws = s.draws := rfl

/-! ### touch -/

@[simp] theorem touch_params (id : BankId) : (touch id s).params = s.params := rfl
@[simp] theorem touch_configured (id : BankId) : (touch id s).configured = s.configured := rfl
@[simp] theorem touch_arb (id : BankId) : (touch id s).arb = s.arb := rfl
@[simp] theorem touch_pending (id : BankId) : (touch id s).pending = s.pending := rfl
@[simp] theorem touch_lines (id : BankId) : (touch id s).lines = s.lines := rfl
@[simp] theorem touch_chips (id : BankId) : (touch id s).chips = s.chips := rfl
@[simp] theorem touch_cpu (id : BankId) : (touch id s).cpu = s.cpu := rfl
@[simp] theorem touch_mem (id : BankId) : (touch id s).mem = s.mem := rfl
@[simp] theorem touch_cycle (id : BankId) : (touch id s).cycle = s.cycle := rfl
@[simp] theorem touch_history (id : BankId) : (touch id s).history = s.history := rfl
@[simp] theorem touch_cmdPort (id : BankId) : (touch id s).cmdPort = s.cmdPort := rfl
@[simp] theorem touch_response (id : BankId) : (touch id s).response = s.response := rfl
@[simp] theorem touch_uopPort (id : BankId) : (touch id s).uopPort = s.uopPort := rfl
@[simp] theorem touch_uopResult (id : BankId) : (touch id s).uopResult = s.uopResult := rfl
@[simp] theorem touch_hung (id : BankId) : (touch id s).hung = s.hung := rfl
@[simp] theorem touch_script (id : BankId) : (touch id s).script = s.script := rfl
@[simp] theorem touch_draws (id : BankId) : (touch id s).draws = s.draws := rfl

/-! ### markStrobed -/

@[simp] theorem markStrobed_params : (markStrobed s).params = s.params := rfl
@[simp] theorem markStrobed_configured : (markStrobed s).configured = s.configured := rfl
@[simp] theorem markStrobed_arb : (markStrobed s).arb = s.arb := rfl
@[simp] theorem markStrobed_pending : (markStrobed s).pending = s.pending := rfl
@[simp] theorem markStrobed_lines : (markStrobed s).lines = s.lines := rfl
@[simp] theorem markStrobed_seq : (markStrobed s).seq = s.seq.map fun q => { q with strobed := true } := rfl
@[simp] theorem markStrobed_chips : (markStrobed s).chips = s.chips := rfl
@[simp] theorem markStrobed_cpu : (markStrobed s).cpu = s.cpu := rfl
@[simp] theorem markStrobed_mem : (markStrobed s).mem = s.mem := rfl
@[simp] theorem markStrobed_cycle : (markStrobed s).cycle = s.cycle := rfl
@[simp] theorem markStrobed_history : (markStrobed s).history = s.history := rfl
@[simp] theorem markStrobed_cmdPort : (markStrobed s).cmdPort = s.cmdPort := rfl
@[simp] theorem markStrobed_response : (markStrobed s).response = s.response := rfl
@[simp] theorem markStrobed_uopPort : (markStrobed s).uopPort = s.uopPort := rfl
@[simp] theorem markStrobed_uopResult : (markStrobed s).uopResult = s.uopResult := rfl
@[simp] theorem markStrobed_hung : (markStrobed s).hung = s.hung := rfl
@[simp] theorem markStrobed_script : (markStrobed s).script = s.script := rfl
@[simp] theorem markStrobed_draws : (markStrobed s).draws = s.draws := rfl

/-! ### noteErr -/

@[simp] theorem noteErr_params (e : Err) : (noteErr e s).params = s.params := rfl
@[simp] theorem noteErr_configured (e : Err) : (noteErr e s).configured = s.configured := rfl
@[simp] theorem noteErr_arb (e : Err) : (noteErr e s).arb = s.arb := rfl
@[simp] theorem noteErr_pending (e : Err) : (noteErr e s).pending = s.pending := rfl
@[simp] theorem noteErr_lines (e : Err) : (noteErr e s).lines = s.lines := rfl
@[simp] theorem noteErr_seq (e : Err) : (noteErr e s).seq = s.seq.map fun q => { q with firstErr := some (q.firstErr.getD e) } := rfl
@[simp] theorem noteErr_chips (e : Err) : (noteErr e s).chips = s.chips := rfl
@[simp] theorem noteErr_cpu (e : Err) : (noteErr e s).cpu = s.cpu := rfl
@[simp] theorem noteErr_mem (e : Err) : (noteErr e s).mem = s.mem := rfl
@[simp] theorem noteErr_cycle (e : Err) : (noteErr e s).cycle = s.cycle := rfl
@[simp] theorem noteErr_history (e : Err) : (noteErr e s).history = s.history := rfl
@[simp] theorem noteErr_cmdPort (e : Err) : (noteErr e s).cmdPort = s.cmdPort := rfl
@[simp] theorem noteErr_response (e : Err) : (noteErr e s).response = s.response := rfl
@[simp] theorem noteErr_uopPort (e : Err) : (noteErr e s).uopPort = s.uopPort := rfl
@[simp] theorem noteErr_uopResult (e : Err) : (noteErr e s).uopResult = s.uopResult := rfl
@[simp] theorem noteErr_hung (e : Err) : (noteErr e s).hung = s.hung := rfl
@[simp] theorem noteErr_script (e : Err) : (noteErr e s).script = s.script := rfl
@[simp] theorem noteErr_draws (e : Err) : (noteErr e s).draws = s.draws := rfl

/-! ### setWarn -/

@[simp] theorem setWarn_params : (setWarn s).params = s.params := rfl
@[simp] theorem setWarn_configured : (setWarn s).configured = s.configured := rfl
@[simp] theorem setWarn_arb : (setWarn s).arb = s.arb := rfl
@[simp] theorem setWarn_pending : (setWarn s).pending = s.pending := rfl
@[simp] theorem setWarn_lines : (setWarn s).lines = s.lines := rfl
@[simp] theorem setWarn_seq : (setWarn s).seq = s.seq.map fun q => { q with warn := true } := rfl
@[simp] theorem setWarn_chips : (setWarn s).chips = s.chips := rfl
@[simp] theorem setWarn_cpu : (setWarn s).cpu = s.cpu := rfl
@[simp] theorem setWarn_mem : (setWarn s).mem = s.mem := rfl
@[simp] theorem setWarn_cycle : (setWarn s).cycle = s.cycle := rfl
@[simp] theorem setWarn_history : (setWarn s).history = s.history := rfl
@[simp] theorem setWarn_cmdPort : (setWarn s).cmdPort = s.cmdPort := rfl
@[simp] theorem setWarn_response : (setWarn s).response = s.response := rfl
@[simp] theorem setWarn_uopPort : (setWarn s).uopPort = s.uopPort := rfl
@[simp] theorem setWarn_uopResult : (setWarn s).uopResult = s.uopResult := rfl
@[simp] theorem setWarn_hung : (setWarn s).hung = s.hung := rfl
@[simp] theorem setWarn_script : (setWarn s).script = s.script := rfl
@[simp] theorem setWarn_draws : (setWarn s).draws = s.draws := rfl

/-! ### freshTransaction -/

@[simp] theorem freshTransaction_params : (freshTransaction s).params = s.params := rfl
@[simp] theorem freshTransaction_configured : (freshTransaction s).configured = s.configured := rfl
@[simp] theorem freshTransaction_arb : (freshTransaction s).arb = s.arb := rfl
@[simp] theorem freshTransaction_pending : (freshTransaction s).pending = s.pending := rfl
@[simp] theorem freshTransaction_lines : (freshTransaction s).lines = s.lines := rfl
@[simp] theorem freshTransaction_seq : (freshTransaction s).seq = s.seq.map fun q => { q with touched := [], strobed := false } := rfl
@[simp] theorem freshTransaction_chips : (freshTransaction s).chips = s.chips := rfl
@[simp] theorem freshTransaction_cpu : (freshTransaction s).cpu = s.cpu := rfl
@[simp] theorem freshTransaction_mem : (freshTransaction s).mem = s.mem := rfl
@[simp] theorem freshTransaction_cycle : (freshTransaction s).cycle = s.cycle := rfl
@[simp] theorem freshTransaction_history : (freshTransaction s).history = s.history := rfl
@[simp] theorem freshTransaction_cmdPort : (freshTransaction s).cmdPort = s.cmdPort := rfl
@[simp] theorem freshTransaction_response : (freshTransaction s).response = s.response := rfl
@[simp] theorem freshTransaction_uopPort : (freshTransaction s).uopPort = s.uopPort := rfl
@[simp] theorem freshTransaction_uopResult : (freshTransaction s).uopResult = s.uopResult := rfl
@[simp] theorem freshTransaction_hung : (freshTransaction s).hung = s.hung := rfl
@[simp] theorem freshTransaction_script : (freshTransaction s).script = s.script := rfl
@[simp] theorem freshTransaction_draws : (freshTransaction s).draws = s.draws := rfl

/-! ### setConfigured -/

@[simp] theorem setConfigured_params (v : Bool) : (setConfigured v s).params = s.params := rfl
@[simp] theorem setConfigured_configured (v : Bool) : (setConfigured v s).configured = v := rfl
@[simp] theorem setConfigured_arb (v : Bool) : (setConfigured v s).arb = s.arb := rfl
@[simp] theorem setConfigured_pending (v : Bool) : (setConfigured v s).pending = s.pending := rfl
@[simp] theorem setConfigured_lines (v : Bool) : (setConfigured v s).lines = s.lines := rfl
@[simp] theorem setConfigured_seq (v : Bool) : (setConfigured v s).seq = s.seq := rfl
@[simp] theorem setConfigured_chips (v : Bool) : (setConfigured v s).chips = s.chips := rfl
@[simp] theorem setConfigured_cpu (v : Bool) : (setConfigured v s).cpu = s.cpu := rfl
@[simp] theorem setConfigured_mem (v : Bool) : (setConfigured v s).mem = s.mem := rfl
@[simp] theorem setConfigured_cycle (v : Bool) : (setConfigured v s).cycle = s.cycle := rfl
@[simp] theorem setConfigured_history (v : Bool) : (setConfigured v s).history = s.history := rfl
@[simp] theorem setConfigured_cmdPort (v : Bool) : (setConfigured v s).cmdPort = s.cmdPort := rfl
@[simp] theorem setConfigured_response (v : Bool) : (setConfigured v s).response = s.response := rfl
@[simp] theorem setConfigured_uopPort (v : Bool) : (setConfigured v s).uopPort = s.uopPort := rfl
@[simp] theorem setConfigured_uopResult (v : Bool) : (setConfigured v s).uopResult = s.uopResult := rfl
@[simp] theorem setConfigured_hung (v : Bool) : (setConfigured v s).hung = s.hung := rfl
@[simp] theorem setConfigured_script (v : Bool) : (setConfigured v s).script = s.script := rfl
@[simp] theorem setConfigured_draws (v : Bool) : (setConfigured v s).draws = s.draws := rfl

/-! ### setArb -/

@[simp] theorem setArb_params (a : Arb) : (setArb a s).params = s.params := rfl
@[simp] theorem setArb_configured (a : Arb) : (setArb a s).configured = s.configured := rfl
@[simp] theorem setArb_arb (a : Arb) : (setArb a s).arb = a := rfl
@[simp] theorem setArb_pending (a : Arb) : (setArb a s).pending = s.pending := rfl
@[simp] theorem setArb_lines (a : Arb) : (setArb a s).lines = s.lines := rfl
@[simp] theorem setArb_seq (a : Arb) : (setArb a s).seq = s.seq := rfl
@[simp] theorem setArb_chips (a : Arb) : (setArb a s).chips = s.chips := rfl
@[simp] theorem setArb_cpu (a : Arb) : (setArb a s).cpu = s.cpu := rfl
@[simp] theorem setArb_mem (a : Arb) : (setArb a s).mem = s.mem := rfl
@[simp] theorem setArb_cycle (a : Arb) : (setArb a s).cycle = s.cycle := rfl
@[simp] theorem setArb_history (a : Arb) : (setArb a s).history = s.history := rfl
@[simp] theorem setArb_cmdPort (a : Arb) : (setArb a s).cmdPort = s.cmdPort := rfl
@[simp] theorem setArb_response (a : Arb) : (setArb a s).response = s.response := rfl
@[simp] theorem setArb_uopPort (a : Arb) : (setArb a s).uopPort = s.uopPort := rfl
@[simp] theorem setArb_uopResult (a : Arb) : (setArb a s).uopResult = s.uopResult := rfl
@[simp] theorem setArb_hung (a : Arb) : (setArb a s).hung = s.hung := rfl
@[simp] theorem setArb_script (a : Arb) : (setArb a s).script = s.script := rfl
@[simp] theorem setArb_draws (a : Arb) : (setArb a s).draws = s.draws := rfl

/-! ### setPending -/

@[simp] theorem setPending_params (v : Option Snapshot) : (setPending v s).params = s.params := rfl
@[simp] theorem setPending_configured (v : Option Snapshot) : (setPending v s).configured = s.configured := rfl
@[simp] theorem setPending_arb (v : Option Snapshot) : (setPending v s).arb = s.arb := rfl
@[simp] theorem setPending_pending (v : Option Snapshot) : (setPending v s).pending = v := rfl
@[simp] theorem setPending_lines (v : Option Snapshot) : (setPending v s).lines = s.lines := rfl
@[simp] theorem setPending_seq (v : Option Snapshot) : (setPending v s).seq = s.seq := rfl
@[simp] theorem setPending_chips (v : Option Snapshot) : (setPending v s).chips = s.chips := rfl
@[simp] theorem setPending_cpu (v : Option Snapshot) : (setPending v s).cpu = s.cpu := rfl
@[simp] theorem setPending_mem (v : Option Snapshot) : (setPending v s).mem = s.mem := rfl
@[simp] theorem setPending_cycle (v : Option Snapshot) : (setPending v s).cycle = s.cycle := rfl
@[simp] theorem setPending_history (v : Option Snapshot) : (setPending v s).history = s.history := rfl
@[simp] theorem setPending_cmdPort (v : Option Snapshot) : (setPending v s).cmdPort = s.cmdPort := rfl
@[simp] theorem setPending_response (v : Option Snapshot) : (setPending v s).response = s.response := rfl
@[simp] theorem setPending_uopPort (v : Option Snapshot) : (setPending v s).uopPort = s.uopPort := rfl
@[simp] theorem setPending_uopResult (v : Option Snapshot) : (setPending v s).uopResult = s.uopResult := rfl
@[simp] theorem setPending_hung (v : Option Snapshot) : (setPending v s).hung = s.hung := rfl
@[simp] theorem setPending_script (v : Option Snapshot) : (setPending v s).script = s.script := rfl
@[simp] theorem setPending_draws (v : Option Snapshot) : (setPending v s).draws = s.draws := rfl

/-! ### setPin -/

@[simp] theorem setPin_params (l : Line) (v : LinePin) : (setPin l v s).params = s.params := rfl
@[simp] theorem setPin_configured (l : Line) (v : LinePin) : (setPin l v s).configured = s.configured := rfl
@[simp] theorem setPin_arb (l : Line) (v : LinePin) : (setPin l v s).arb = s.arb := rfl
@[simp] theorem setPin_pending (l : Line) (v : LinePin) : (setPin l v s).pending = s.pending := rfl
@[simp] theorem setPin_lines (l : Line) (v : LinePin) : (setPin l v s).lines = withLine s.lines l v := rfl
@[simp] theorem setPin_seq (l : Line) (v : LinePin) : (setPin l v s).seq = s.seq := rfl
@[simp] theorem setPin_chips (l : Line) (v : LinePin) : (setPin l v s).chips = s.chips := rfl
@[simp] theorem setPin_cpu (l : Line) (v : LinePin) : (setPin l v s).cpu = s.cpu := rfl
@[simp] theorem setPin_mem (l : Line) (v : LinePin) : (setPin l v s).mem = s.mem := rfl
@[simp] theorem setPin_cycle (l : Line) (v : LinePin) : (setPin l v s).cycle = s.cycle := rfl
@[simp] theorem setPin_history (l : Line) (v : LinePin) : (setPin l v s).history = s.history := rfl
@[simp] theorem setPin_cmdPort (l : Line) (v : LinePin) : (setPin l v s).cmdPort = s.cmdPort := rfl
@[simp] theorem setPin_response (l : Line) (v : LinePin) : (setPin l v s).response = s.response := rfl
@[simp] theorem setPin_uopPort (l : Line) (v : LinePin) : (setPin l v s).uopPort = s.uopPort := rfl
@[simp] theorem setPin_uopResult (l : Line) (v : LinePin) : (setPin l v s).uopResult = s.uopResult := rfl
@[simp] theorem setPin_hung (l : Line) (v : LinePin) : (setPin l v s).hung = s.hung := rfl
@[simp] theorem setPin_script (l : Line) (v : LinePin) : (setPin l v s).script = s.script := rfl
@[simp] theorem setPin_draws (l : Line) (v : LinePin) : (setPin l v s).draws = s.draws := rfl

/-! ### setChips -/

@[simp] theorem setChips_params (e : Expanders) : (setChips e s).params = s.params := rfl
@[simp] theorem setChips_configured (e : Expanders) : (setChips e s).configured = s.configured := rfl
@[simp] theorem setChips_arb (e : Expanders) : (setChips e s).arb = s.arb := rfl
@[simp] theorem setChips_pending (e : Expanders) : (setChips e s).pending = s.pending := rfl
@[simp] theorem setChips_lines (e : Expanders) : (setChips e s).lines = s.lines := rfl
@[simp] theorem setChips_seq (e : Expanders) : (setChips e s).seq = s.seq := rfl
@[simp] theorem setChips_chips (e : Expanders) : (setChips e s).chips = e := rfl
@[simp] theorem setChips_cpu (e : Expanders) : (setChips e s).cpu = s.cpu := rfl
@[simp] theorem setChips_mem (e : Expanders) : (setChips e s).mem = s.mem := rfl
@[simp] theorem setChips_cycle (e : Expanders) : (setChips e s).cycle = s.cycle := rfl
@[simp] theorem setChips_history (e : Expanders) : (setChips e s).history = s.history := rfl
@[simp] theorem setChips_cmdPort (e : Expanders) : (setChips e s).cmdPort = s.cmdPort := rfl
@[simp] theorem setChips_response (e : Expanders) : (setChips e s).response = s.response := rfl
@[simp] theorem setChips_uopPort (e : Expanders) : (setChips e s).uopPort = s.uopPort := rfl
@[simp] theorem setChips_uopResult (e : Expanders) : (setChips e s).uopResult = s.uopResult := rfl
@[simp] theorem setChips_hung (e : Expanders) : (setChips e s).hung = s.hung := rfl
@[simp] theorem setChips_script (e : Expanders) : (setChips e s).script = s.script := rfl
@[simp] theorem setChips_draws (e : Expanders) : (setChips e s).draws = s.draws := rfl

/-! ### setCpu -/

@[simp] theorem setCpu_params (c : Cpu) : (setCpu c s).params = s.params := rfl
@[simp] theorem setCpu_configured (c : Cpu) : (setCpu c s).configured = s.configured := rfl
@[simp] theorem setCpu_arb (c : Cpu) : (setCpu c s).arb = s.arb := rfl
@[simp] theorem setCpu_pending (c : Cpu) : (setCpu c s).pending = s.pending := rfl
@[simp] theorem setCpu_lines (c : Cpu) : (setCpu c s).lines = s.lines := rfl
@[simp] theorem setCpu_seq (c : Cpu) : (setCpu c s).seq = s.seq := rfl
@[simp] theorem setCpu_chips (c : Cpu) : (setCpu c s).chips = s.chips := rfl
@[simp] theorem setCpu_cpu (c : Cpu) : (setCpu c s).cpu = c := rfl
@[simp] theorem setCpu_mem (c : Cpu) : (setCpu c s).mem = s.mem := rfl
@[simp] theorem setCpu_cycle (c : Cpu) : (setCpu c s).cycle = s.cycle := rfl
@[simp] theorem setCpu_history (c : Cpu) : (setCpu c s).history = s.history := rfl
@[simp] theorem setCpu_cmdPort (c : Cpu) : (setCpu c s).cmdPort = s.cmdPort := rfl
@[simp] theorem setCpu_response (c : Cpu) : (setCpu c s).response = s.response := rfl
@[simp] theorem setCpu_uopPort (c : Cpu) : (setCpu c s).uopPort = s.uopPort := rfl
@[simp] theorem setCpu_uopResult (c : Cpu) : (setCpu c s).uopResult = s.uopResult := rfl
@[simp] theorem setCpu_hung (c : Cpu) : (setCpu c s).hung = s.hung := rfl
@[simp] theorem setCpu_script (c : Cpu) : (setCpu c s).script = s.script := rfl
@[simp] theorem setCpu_draws (c : Cpu) : (setCpu c s).draws = s.draws := rfl

/-! ### setMem -/

@[simp] theorem setMem_params (m : List Host.Cell) : (setMem m s).params = s.params := rfl
@[simp] theorem setMem_configured (m : List Host.Cell) : (setMem m s).configured = s.configured := rfl
@[simp] theorem setMem_arb (m : List Host.Cell) : (setMem m s).arb = s.arb := rfl
@[simp] theorem setMem_pending (m : List Host.Cell) : (setMem m s).pending = s.pending := rfl
@[simp] theorem setMem_lines (m : List Host.Cell) : (setMem m s).lines = s.lines := rfl
@[simp] theorem setMem_seq (m : List Host.Cell) : (setMem m s).seq = s.seq := rfl
@[simp] theorem setMem_chips (m : List Host.Cell) : (setMem m s).chips = s.chips := rfl
@[simp] theorem setMem_cpu (m : List Host.Cell) : (setMem m s).cpu = s.cpu := rfl
@[simp] theorem setMem_mem (m : List Host.Cell) : (setMem m s).mem = m := rfl
@[simp] theorem setMem_cycle (m : List Host.Cell) : (setMem m s).cycle = s.cycle := rfl
@[simp] theorem setMem_history (m : List Host.Cell) : (setMem m s).history = s.history := rfl
@[simp] theorem setMem_cmdPort (m : List Host.Cell) : (setMem m s).cmdPort = s.cmdPort := rfl
@[simp] theorem setMem_response (m : List Host.Cell) : (setMem m s).response = s.response := rfl
@[simp] theorem setMem_uopPort (m : List Host.Cell) : (setMem m s).uopPort = s.uopPort := rfl
@[simp] theorem setMem_uopResult (m : List Host.Cell) : (setMem m s).uopResult = s.uopResult := rfl
@[simp] theorem setMem_hung (m : List Host.Cell) : (setMem m s).hung = s.hung := rfl
@[simp] theorem setMem_script (m : List Host.Cell) : (setMem m s).script = s.script := rfl
@[simp] theorem setMem_draws (m : List Host.Cell) : (setMem m s).draws = s.draws := rfl

/-! ### setCycle -/

@[simp] theorem setCycle_params (c : BusCycle) : (setCycle c s).params = s.params := rfl
@[simp] theorem setCycle_configured (c : BusCycle) : (setCycle c s).configured = s.configured := rfl
@[simp] theorem setCycle_arb (c : BusCycle) : (setCycle c s).arb = s.arb := rfl
@[simp] theorem setCycle_pending (c : BusCycle) : (setCycle c s).pending = s.pending := rfl
@[simp] theorem setCycle_lines (c : BusCycle) : (setCycle c s).lines = s.lines := rfl
@[simp] theorem setCycle_seq (c : BusCycle) : (setCycle c s).seq = s.seq := rfl
@[simp] theorem setCycle_chips (c : BusCycle) : (setCycle c s).chips = s.chips := rfl
@[simp] theorem setCycle_cpu (c : BusCycle) : (setCycle c s).cpu = s.cpu := rfl
@[simp] theorem setCycle_mem (c : BusCycle) : (setCycle c s).mem = s.mem := rfl
@[simp] theorem setCycle_cycle (c : BusCycle) : (setCycle c s).cycle = c := rfl
@[simp] theorem setCycle_history (c : BusCycle) : (setCycle c s).history = s.history := rfl
@[simp] theorem setCycle_cmdPort (c : BusCycle) : (setCycle c s).cmdPort = s.cmdPort := rfl
@[simp] theorem setCycle_response (c : BusCycle) : (setCycle c s).response = s.response := rfl
@[simp] theorem setCycle_uopPort (c : BusCycle) : (setCycle c s).uopPort = s.uopPort := rfl
@[simp] theorem setCycle_uopResult (c : BusCycle) : (setCycle c s).uopResult = s.uopResult := rfl
@[simp] theorem setCycle_hung (c : BusCycle) : (setCycle c s).hung = s.hung := rfl
@[simp] theorem setCycle_script (c : BusCycle) : (setCycle c s).script = s.script := rfl
@[simp] theorem setCycle_draws (c : BusCycle) : (setCycle c s).draws = s.draws := rfl

/-! ### setHung -/

@[simp] theorem setHung_params : (setHung s).params = s.params := rfl
@[simp] theorem setHung_configured : (setHung s).configured = s.configured := rfl
@[simp] theorem setHung_arb : (setHung s).arb = s.arb := rfl
@[simp] theorem setHung_pending : (setHung s).pending = s.pending := rfl
@[simp] theorem setHung_lines : (setHung s).lines = s.lines := rfl
@[simp] theorem setHung_seq : (setHung s).seq = s.seq := rfl
@[simp] theorem setHung_chips : (setHung s).chips = s.chips := rfl
@[simp] theorem setHung_cpu : (setHung s).cpu = s.cpu := rfl
@[simp] theorem setHung_mem : (setHung s).mem = s.mem := rfl
@[simp] theorem setHung_cycle : (setHung s).cycle = s.cycle := rfl
@[simp] theorem setHung_history : (setHung s).history = s.history := rfl
@[simp] theorem setHung_cmdPort : (setHung s).cmdPort = s.cmdPort := rfl
@[simp] theorem setHung_response : (setHung s).response = s.response := rfl
@[simp] theorem setHung_uopPort : (setHung s).uopPort = s.uopPort := rfl
@[simp] theorem setHung_uopResult : (setHung s).uopResult = s.uopResult := rfl
@[simp] theorem setHung_hung : (setHung s).hung = true := rfl
@[simp] theorem setHung_script : (setHung s).script = s.script := rfl
@[simp] theorem setHung_draws : (setHung s).draws = s.draws := rfl

/-! ### setUopResult -/

@[simp] theorem setUopResult_params (r : UopResult) : (setUopResult r s).params = s.params := rfl
@[simp] theorem setUopResult_configured (r : UopResult) : (setUopResult r s).configured = s.configured := rfl
@[simp] theorem setUopResult_arb (r : UopResult) : (setUopResult r s).arb = s.arb := rfl
@[simp] theorem setUopResult_pending (r : UopResult) : (setUopResult r s).pending = s.pending := rfl
@[simp] theorem setUopResult_lines (r : UopResult) : (setUopResult r s).lines = s.lines := rfl
@[simp] theorem setUopResult_seq (r : UopResult) : (setUopResult r s).seq = s.seq := rfl
@[simp] theorem setUopResult_chips (r : UopResult) : (setUopResult r s).chips = s.chips := rfl
@[simp] theorem setUopResult_cpu (r : UopResult) : (setUopResult r s).cpu = s.cpu := rfl
@[simp] theorem setUopResult_mem (r : UopResult) : (setUopResult r s).mem = s.mem := rfl
@[simp] theorem setUopResult_cycle (r : UopResult) : (setUopResult r s).cycle = s.cycle := rfl
@[simp] theorem setUopResult_history (r : UopResult) : (setUopResult r s).history = s.history := rfl
@[simp] theorem setUopResult_cmdPort (r : UopResult) : (setUopResult r s).cmdPort = s.cmdPort := rfl
@[simp] theorem setUopResult_response (r : UopResult) : (setUopResult r s).response = s.response := rfl
@[simp] theorem setUopResult_uopPort (r : UopResult) : (setUopResult r s).uopPort = s.uopPort := rfl
@[simp] theorem setUopResult_uopResult (r : UopResult) : (setUopResult r s).uopResult = some r := rfl
@[simp] theorem setUopResult_hung (r : UopResult) : (setUopResult r s).hung = s.hung := rfl
@[simp] theorem setUopResult_script (r : UopResult) : (setUopResult r s).script = s.script := rfl
@[simp] theorem setUopResult_draws (r : UopResult) : (setUopResult r s).draws = s.draws := rfl

/-! ### respond -/

@[simp] theorem respond_params (w : Reply) : (respond w s).params = s.params := rfl
@[simp] theorem respond_configured (w : Reply) : (respond w s).configured = s.configured := rfl
@[simp] theorem respond_arb (w : Reply) : (respond w s).arb = s.arb := rfl
@[simp] theorem respond_pending (w : Reply) : (respond w s).pending = s.pending := rfl
@[simp] theorem respond_lines (w : Reply) : (respond w s).lines = s.lines := rfl
@[simp] theorem respond_seq (w : Reply) : (respond w s).seq = none := rfl
@[simp] theorem respond_chips (w : Reply) : (respond w s).chips = s.chips := rfl
@[simp] theorem respond_cpu (w : Reply) : (respond w s).cpu = s.cpu := rfl
@[simp] theorem respond_mem (w : Reply) : (respond w s).mem = s.mem := rfl
@[simp] theorem respond_cycle (w : Reply) : (respond w s).cycle = s.cycle := rfl
@[simp] theorem respond_history (w : Reply) : (respond w s).history = s.history ++ [.response w] := rfl
@[simp] theorem respond_cmdPort (w : Reply) : (respond w s).cmdPort = s.cmdPort := rfl
@[simp] theorem respond_response (w : Reply) : (respond w s).response = some w := rfl
@[simp] theorem respond_uopPort (w : Reply) : (respond w s).uopPort = s.uopPort := rfl
@[simp] theorem respond_uopResult (w : Reply) : (respond w s).uopResult = s.uopResult := rfl
@[simp] theorem respond_hung (w : Reply) : (respond w s).hung = s.hung := rfl
@[simp] theorem respond_script (w : Reply) : (respond w s).script = s.script := rfl
@[simp] theorem respond_draws (w : Reply) : (respond w s).draws = s.draws := rfl

/-! ### takeUop -/

@[simp] theorem takeUop_params : (takeUop s).params = s.params := rfl
@[simp] theorem takeUop_configured : (takeUop s).configured = s.configured := rfl
@[simp] theorem takeUop_arb : (takeUop s).arb = s.arb := rfl
@[simp] theorem takeUop_pending : (takeUop s).pending = s.pending := rfl
@[simp] theorem takeUop_lines : (takeUop s).lines = s.lines := rfl
@[simp] theorem takeUop_seq : (takeUop s).seq = s.seq := rfl
@[simp] theorem takeUop_chips : (takeUop s).chips = s.chips := rfl
@[simp] theorem takeUop_cpu : (takeUop s).cpu = s.cpu := rfl
@[simp] theorem takeUop_mem : (takeUop s).mem = s.mem := rfl
@[simp] theorem takeUop_cycle : (takeUop s).cycle = s.cycle := rfl
@[simp] theorem takeUop_history : (takeUop s).history = s.history := rfl
@[simp] theorem takeUop_cmdPort : (takeUop s).cmdPort = s.cmdPort := rfl
@[simp] theorem takeUop_response : (takeUop s).response = s.response := rfl
@[simp] theorem takeUop_uopPort : (takeUop s).uopPort = none := rfl
@[simp] theorem takeUop_uopResult : (takeUop s).uopResult = s.uopResult := rfl
@[simp] theorem takeUop_hung : (takeUop s).hung = s.hung := rfl
@[simp] theorem takeUop_script : (takeUop s).script = s.script := rfl
@[simp] theorem takeUop_draws : (takeUop s).draws = s.draws := rfl

/-! ### envMove -/

@[simp] theorem envMove_params (d : Draw) : (envMove d s).params = s.params := rfl
@[simp] theorem envMove_configured (d : Draw) : (envMove d s).configured = s.configured := rfl
@[simp] theorem envMove_arb (d : Draw) : (envMove d s).arb = s.arb := rfl
@[simp] theorem envMove_pending (d : Draw) : (envMove d s).pending = s.pending := rfl
@[simp] theorem envMove_lines (d : Draw) : (envMove d s).lines = s.lines := rfl
@[simp] theorem envMove_seq (d : Draw) : (envMove d s).seq = s.seq := rfl
@[simp] theorem envMove_chips (d : Draw) : (envMove d s).chips = s.chips := rfl
@[simp] theorem envMove_cycle (d : Draw) :
    (envMove d s).cycle = if d.cycleEnds && !holdsReadStrobes s then .idle else s.cycle := rfl
@[simp] theorem envMove_inReset (d : Draw) : (envMove d s).cpu.inReset = lineActive s d .reset := by
  simp only [envMove, cpuMoves, resetSeen]; split <;> simp_all
@[simp] theorem envMove_granted (d : Draw) : (envMove d s).cpu.granted = nextGranted d s := rfl
/-- Without a drawn fetch the fetch at address 0 stays due, and the end of RESET makes it due (R52). -/
theorem envMove_fetchFromZero {d : Draw} (h : d.cpuFetch = false) :
    (envMove d s).cpu.fetchFromZero = (resetSeen (lineActive s d .reset) s.cpu).fetchFromZero := by simp [envMove, cpuMoves, h]
@[simp] theorem envMove_history (d : Draw) :
    (envMove d s).history = s.history ++ contentionEvents (busBetween d s) (drawBetween d) := rfl
@[simp] theorem envMove_cmdPort (d : Draw) : (envMove d s).cmdPort = s.cmdPort := rfl
@[simp] theorem envMove_response (d : Draw) : (envMove d s).response = s.response := rfl
@[simp] theorem envMove_uopPort (d : Draw) : (envMove d s).uopPort = s.uopPort := rfl
@[simp] theorem envMove_uopResult (d : Draw) : (envMove d s).uopResult = s.uopResult := rfl
@[simp] theorem envMove_hung (d : Draw) : (envMove d s).hung = s.hung := rfl
@[simp] theorem envMove_script (d : Draw) : (envMove d s).script = s.script := rfl
@[simp] theorem envMove_draws (d : Draw) : (envMove d s).draws = s.draws := rfl

/-! ### observeBus -/

@[simp] theorem observeBus_params (d : Draw) : (observeBus d s).params = s.params := rfl
@[simp] theorem observeBus_configured (d : Draw) : (observeBus d s).configured = s.configured := rfl
@[simp] theorem observeBus_arb (d : Draw) : (observeBus d s).arb = s.arb := rfl
@[simp] theorem observeBus_pending (d : Draw) : (observeBus d s).pending = s.pending := rfl
@[simp] theorem observeBus_lines (d : Draw) : (observeBus d s).lines = s.lines := rfl
@[simp] theorem observeBus_seq (d : Draw) : (observeBus d s).seq = s.seq := rfl
@[simp] theorem observeBus_chips (d : Draw) : (observeBus d s).chips = s.chips := rfl
@[simp] theorem observeBus_cpu (d : Draw) : (observeBus d s).cpu = s.cpu := rfl
@[simp] theorem observeBus_mem (d : Draw) : (observeBus d s).mem = memoryNow d s := rfl
@[simp] theorem observeBus_cycle (d : Draw) : (observeBus d s).cycle = cycleNow d s := rfl
@[simp] theorem observeBus_history (d : Draw) : (observeBus d s).history = s.history ++ contentionEvents s d := rfl
@[simp] theorem observeBus_cmdPort (d : Draw) : (observeBus d s).cmdPort = s.cmdPort := rfl
@[simp] theorem observeBus_response (d : Draw) : (observeBus d s).response = s.response := rfl
@[simp] theorem observeBus_uopPort (d : Draw) : (observeBus d s).uopPort = s.uopPort := rfl
@[simp] theorem observeBus_uopResult (d : Draw) : (observeBus d s).uopResult = s.uopResult := rfl
@[simp] theorem observeBus_hung (d : Draw) : (observeBus d s).hung = s.hung := rfl
@[simp] theorem observeBus_script (d : Draw) : (observeBus d s).script = s.script := rfl
@[simp] theorem observeBus_draws (d : Draw) : (observeBus d s).draws = s.draws := rfl

/-! ### dropDraw -/

@[simp] theorem dropDraw_params : (dropDraw s).params = s.params := by
  unfold dropDraw; split <;> rfl
@[simp] theorem dropDraw_configured : (dropDraw s).configured = s.configured := by
  unfold dropDraw; split <;> rfl
@[simp] theorem dropDraw_arb : (dropDraw s).arb = s.arb := by
  unfold dropDraw; split <;> rfl
@[simp] theorem dropDraw_pending : (dropDraw s).pending = s.pending := by
  unfold dropDraw; split <;> rfl
@[simp] theorem dropDraw_lines : (dropDraw s).lines = s.lines := by
  unfold dropDraw; split <;> rfl
@[simp] theorem dropDraw_seq : (dropDraw s).seq = s.seq := by
  unfold dropDraw; split <;> rfl
@[simp] theorem dropDraw_chips : (dropDraw s).chips = s.chips := by
  unfold dropDraw; split <;> rfl
@[simp] theorem dropDraw_cpu : (dropDraw s).cpu = s.cpu := by
  unfold dropDraw; split <;> rfl
@[simp] theorem dropDraw_mem : (dropDraw s).mem = s.mem := by
  unfold dropDraw; split <;> rfl
@[simp] theorem dropDraw_cycle : (dropDraw s).cycle = s.cycle := by
  unfold dropDraw; split <;> rfl
@[simp] theorem dropDraw_history : (dropDraw s).history = s.history := by
  unfold dropDraw; split <;> rfl
@[simp] theorem dropDraw_cmdPort : (dropDraw s).cmdPort = s.cmdPort := by
  unfold dropDraw; split <;> rfl
@[simp] theorem dropDraw_response : (dropDraw s).response = s.response := by
  unfold dropDraw; split <;> rfl
@[simp] theorem dropDraw_uopPort : (dropDraw s).uopPort = s.uopPort := by
  unfold dropDraw; split <;> rfl
@[simp] theorem dropDraw_uopResult : (dropDraw s).uopResult = s.uopResult := by
  unfold dropDraw; split <;> rfl
@[simp] theorem dropDraw_hung : (dropDraw s).hung = s.hung := by
  unfold dropDraw; split <;> rfl

/-! ### seeReset -/

@[simp] theorem seeReset_params (d : Draw) : (seeReset d s).params = s.params := rfl
@[simp] theorem seeReset_configured (d : Draw) : (seeReset d s).configured = s.configured := rfl
@[simp] theorem seeReset_arb (d : Draw) : (seeReset d s).arb = s.arb := rfl
@[simp] theorem seeReset_pending (d : Draw) : (seeReset d s).pending = s.pending := rfl
@[simp] theorem seeReset_lines (d : Draw) : (seeReset d s).lines = s.lines := rfl
@[simp] theorem seeReset_seq (d : Draw) : (seeReset d s).seq = s.seq := rfl
@[simp] theorem seeReset_chips (d : Draw) : (seeReset d s).chips = s.chips := rfl
@[simp] theorem seeReset_mem (d : Draw) : (seeReset d s).mem = s.mem := rfl
@[simp] theorem seeReset_cycle (d : Draw) : (seeReset d s).cycle = s.cycle := rfl
@[simp] theorem seeReset_history (d : Draw) : (seeReset d s).history = s.history := rfl
@[simp] theorem seeReset_cmdPort (d : Draw) : (seeReset d s).cmdPort = s.cmdPort := rfl
@[simp] theorem seeReset_response (d : Draw) : (seeReset d s).response = s.response := rfl
@[simp] theorem seeReset_uopPort (d : Draw) : (seeReset d s).uopPort = s.uopPort := rfl
@[simp] theorem seeReset_uopResult (d : Draw) : (seeReset d s).uopResult = s.uopResult := rfl
@[simp] theorem seeReset_hung (d : Draw) : (seeReset d s).hung = s.hung := rfl
@[simp] theorem seeReset_script (d : Draw) : (seeReset d s).script = s.script := rfl
@[simp] theorem seeReset_draws (d : Draw) : (seeReset d s).draws = s.draws := rfl
@[simp] theorem seeReset_cpu (d : Draw) : (seeReset d s).cpu = resetSeen (lineActive s d .reset) s.cpu := rfl

/-! ### resetSeen, issue -/

@[simp] theorem resetSeen_active (c : Cpu) : resetSeen true c = ⟨false, c.fetchFromZero, true⟩ := rfl
@[simp] theorem resetSeen_inactive (c : Cpu) :
    resetSeen false c = ⟨c.granted, c.fetchFromZero || c.inReset, false⟩ := rfl
theorem issue_of_ready {s : State} (w : Word) (h : ready s = true) : issue w s = { s with cmdPort := wordBytes w } := by
  simp [issue, h]
theorem issue_of_busy {s : State} (w : Word) (h : ready s = false) : issue w s = s := by simp [issue, h]

end Sys2Proof.Machine
end

