-- ==== Sys2Proof/Laws/Memory.lean ====
section
/-! SUPPORT. The memory's list of cells: reading back what was written, and the canonical form, which every memory
operation keeps. -/

namespace Sys2Proof.Machine

theorem memRead_memWrite_same (m : List Host.Cell) (a : Nat) (v : Byte) : memRead (memWrite m a v) a = some v := by
  induction m with
  | nil => simp [memWrite, memRead]
  | cons c rest ih =>
    simp only [memWrite]
    split
    · simp [memRead]
    · split
      · simp [memRead]
      · have : ¬ c.1 = a := by omega
        simp [memRead, this, ih]

theorem memRead_memWrite_other (m : List Host.Cell) {a x : Nat} (v : Byte) (h : x ≠ a) :
    memRead (memWrite m a v) x = memRead m x := by
  have h' : ¬ a = x := fun e => h e.symm
  induction m with
  | nil => simp [memWrite, memRead, h']
  | cons c rest ih =>
    simp only [memWrite]
    split
    · simp [memRead, h']
    · split
      · rename_i hac
        have hc : ¬ c.1 = x := by omega
        simp [memRead, h', hc]
      · simp [memRead, ih]

theorem mem_memWrite {m : List Host.Cell} {a : Nat} {v : Byte} {c : Host.Cell} (h : c ∈ memWrite m a v) :
    c.1 = a ∨ c ∈ m := by
  induction m with
  | nil => simp [memWrite] at h; exact .inl (by rw [h])
  | cons e rest ih =>
    simp only [memWrite] at h
    split at h
    · rcases List.mem_cons.1 h with rfl | h
      · exact .inl rfl
      · exact .inr h
    · split at h
      · rcases List.mem_cons.1 h with rfl | h
        · exact .inl rfl
        · exact .inr (List.mem_cons_of_mem _ h)
      · rcases List.mem_cons.1 h with rfl | h
        · exact .inr (List.mem_cons_self ..)
        · exact (ih h).imp id (List.mem_cons_of_mem _)

theorem memWrite_pairwise {m : List Host.Cell} (a : Nat) (v : Byte) (h : m.Pairwise fun x y => x.1 < y.1) :
    (memWrite m a v).Pairwise fun x y => x.1 < y.1 := by
  induction m with
  | nil => simp [memWrite]
  | cons c rest ih =>
    obtain ⟨hc, hrest⟩ := List.pairwise_cons.1 h
    simp only [memWrite]
    split
    · rename_i hlt
      refine List.pairwise_cons.2 ⟨fun y hy => ?_, h⟩
      rcases List.mem_cons.1 hy with rfl | hy
      · exact hlt
      · exact lt_trans hlt (hc y hy)
    · split
      · rename_i heq
        exact List.pairwise_cons.2 ⟨fun y hy => by simpa [heq] using hc y hy, hrest⟩
      · refine List.pairwise_cons.2 ⟨fun y hy => ?_, ih hrest⟩
        rcases mem_memWrite hy with hy | hy
        · omega
        · exact hc y hy

/-- Writing a byte keeps the canonical form. -/
theorem memWrite_wf {m : List Host.Cell} (h : Memory.wf m) (a : Addr) (v : Byte) : Memory.wf (memWrite m a.toNat v) := by
  refine ⟨memWrite_pairwise _ _ h.1, fun c hc => ?_⟩
  rcases mem_memWrite hc with hc | hc
  · have := a.isLt; omega
  · exact h.2 c hc

/-- Storing several bytes keeps the canonical form. -/
theorem memWriteAll_wf {m : List Host.Cell} (h : Memory.wf m) (xs : List (Addr × Byte)) : Memory.wf (memWriteAll m xs) := by
  induction xs generalizing m with
  | nil => exact h
  | cons x xs ih => exact ih (memWrite_wf h _ _)

/-- The environment's stores keep the canonical form. -/
theorem envMove_wf {s : State} (h : Memory.wf s.mem) (d : Draw) : Memory.wf (envMove d s).mem := by
  unfold envMove cpuMoves
  dsimp only
  split
  · exact h
  · exact memWriteAll_wf h _

/-- What a bus cycle does to the memory keeps the canonical form. -/
theorem memoryNow_wf {s : State} (h : Memory.wf s.mem) (d : Draw) : Memory.wf (memoryNow d s) := by
  unfold memoryNow
  split
  · exact memWrite_wf h _ _
  · split
    · exact memWrite_wf h _ _
    · exact h
  · exact h

end Sys2Proof.Machine
end

