-- ==== Sys2Proof/Laws/PortAction.lean ====
section
/-! SUPPORT. What one port action can do: everything but the CPU, the memory, the bus cycle and the Contention events is
what its act does. -/

namespace Sys2Proof.Machine

variable (d : Draw) (f : State → State) (s : State)

@[simp] theorem portAction_params : (portAction d f s).params = (f (envMove d s)).params := by simp [portAction]
@[simp] theorem portAction_configured : (portAction d f s).configured = (f (envMove d s)).configured := by simp [portAction]
@[simp] theorem portAction_arb : (portAction d f s).arb = (f (envMove d s)).arb := by simp [portAction]
@[simp] theorem portAction_pending : (portAction d f s).pending = (f (envMove d s)).pending := by simp [portAction]
@[simp] theorem portAction_lines : (portAction d f s).lines = (f (envMove d s)).lines := by simp [portAction]
@[simp] theorem portAction_chips : (portAction d f s).chips = (f (envMove d s)).chips := by simp [portAction]
@[simp] theorem portAction_cmdPort : (portAction d f s).cmdPort = (f (envMove d s)).cmdPort := by simp [portAction]
@[simp] theorem portAction_response : (portAction d f s).response = (f (envMove d s)).response := by simp [portAction]
@[simp] theorem portAction_uopPort : (portAction d f s).uopPort = (f (envMove d s)).uopPort := by simp [portAction]
@[simp] theorem portAction_uopResult : (portAction d f s).uopResult = (f (envMove d s)).uopResult := by simp [portAction]
@[simp] theorem portAction_hung : (portAction d f s).hung = (f (envMove d s)).hung := by simp [portAction]
@[simp] theorem portAction_script : (portAction d f s).script = (f (envMove d s)).script := by simp [portAction]
@[simp] theorem portAction_draws : (portAction d f s).draws = (f (envMove d s)).draws := by simp [portAction]

/-- The step index advances by one (R35). -/
@[simp] theorem portAction_seq :
    (portAction d f s).seq = (f (envMove d s)).seq.map fun q => { q with k := q.k + 1 } := by simp [portAction]

/-- The history grows by the Contention faults before the act (`envMove_history`), by what the act records, and by the
Contention faults of the bus after it (R43, R47, R371). -/
theorem portAction_history :
    ∃ m, (portAction d f s).history = (f (envMove d s)).history ++ contentionEvents m d := by
  refine ⟨seeReset d (tick (f (envMove d s))), ?_⟩
  simp only [portAction, observeBus_history, seeReset_history, tick_history]

/-- The canonical form of the memory is kept. -/
theorem portAction_wf (hf : ∀ m, (f m).mem = m.mem) (h : Memory.wf s.mem) : Memory.wf (portAction d f s).mem := by
  simp only [portAction, observeBus_mem]
  refine memoryNow_wf ?_ d
  simp only [seeReset_mem, tick_mem, hf]
  exact envMove_wf h d

/-! ## Draws -/

variable {s}

/-- Using a draw up moves every later one forward. -/
theorem drawAt_dropDraw (i : Nat) : drawAt (dropDraw s) i = drawAt s (i + 1) := by
  unfold drawAt dropDraw
  cases h : s.script with
  | nil => simp; congr 1; omega
  | cons a l => simp

/-- The draws depend on the script and on the count only. -/
theorem drawAt_congr {t : State} (hs : t.script = s.script) (hd : t.draws = s.draws) (i : Nat) :
    drawAt t i = drawAt s i := by
  unfold drawAt; rw [hs, hd]

@[simp] theorem drawAt_portAction (i : Nat) (hs : (f (envMove d s)).script = s.script)
    (hd : (f (envMove d s)).draws = s.draws) : drawAt (portAction d f s) i = drawAt s i :=
  drawAt_congr (by simp [hs]) (by simp [hd]) i

/-! ## Transfers -/

/-- Everything a register write can do (R125, R175, R327). -/
theorem xferW_cases (c : ChipId) (r : Reg) (v : Byte) (s : State) :
    ((drawAt s 0).xfer = .ok ∧
      xferW c r v s = (.ok (), portAction (drawAt s 0)
        (fun m => setChips (writeReg m.params m.chips c r v) (record (.xferW c (regAddr s.params r) v true) m))
        (dropDraw s))) ∨
    (∃ x, (drawAt s 0).xfer = .err x ∧
      xferW c r v s = (.failed (.transport c (regAddr s.params r) (stepIndex s)),
        noteErr (.transport c (regAddr s.params r) (stepIndex s)) (portAction (drawAt s 0)
          (fun m => setChips (failReg m.chips c r x) (record (.xferW c (regAddr s.params r) v false) m))
          (dropDraw s)))) ∨
    ((drawAt s 0).xfer = .hang ∧ xferW c r v s = (.hung, setHung (envMove (drawAt s 0) (dropDraw s)))) := by
  unfold xferW
  cases h : (drawAt s 0).xfer with
  | ok => exact .inl ⟨rfl, by simp [h]⟩
  | err x => exact .inr (.inl ⟨x, rfl, by simp [h]⟩)
  | hang => exact .inr (.inr ⟨rfl, by simp [h]⟩)

/-- Everything a read of an input latch can do (R44, R175, R327). -/
theorem xferR_cases (id : BankId) (s : State) :
    ((drawAt s 0).xfer = .ok ∧
      xferR id s = (.ok (gpioByte (envMove (drawAt s 0) (dropDraw s)) (drawAt s 0) id),
        portAction (drawAt s 0)
          (record (.xferR id.chip (gpioAddr s.params id.bank)
            (some (gpioByte (envMove (drawAt s 0) (dropDraw s)) (drawAt s 0) id)))) (dropDraw s))) ∨
    (∃ x, (drawAt s 0).xfer = .err x ∧
      xferR id s = (.failed (.transport id.chip (gpioAddr s.params id.bank) (stepIndex s)),
        noteErr (.transport id.chip (gpioAddr s.params id.bank) (stepIndex s)) (portAction (drawAt s 0)
          (record (.xferR id.chip (gpioAddr s.params id.bank) none)) (dropDraw s)))) ∨
    ((drawAt s 0).xfer = .hang ∧ xferR id s = (.hung, setHung (envMove (drawAt s 0) (dropDraw s)))) := by
  unfold xferR
  cases h : (drawAt s 0).xfer with
  | ok => exact .inl ⟨rfl, by simp [h]⟩
  | err x => exact .inr (.inl ⟨x, rfl, by simp [h]⟩)
  | hang => exact .inr (.inr ⟨rfl, by simp [h]⟩)

end Sys2Proof.Machine
end

