-- ==== Sys2Proof/Laws/Ops.lean ====
section
/-! SUPPORT. Relations between the state before an operation and the state after it, closed under the combinators: what
every transfer, every pin action and every change of the sequencer record respects, every operation made of them does. -/

namespace Sys2Proof.Machine

/-- Whatever an operation does, its start and its end are related. -/
def Stays {α : Type} (R : State → State → Prop) (o : Op α) : Prop := ∀ s, R s (o s).2

/-- A preorder on states. -/
structure Rel (R : State → State → Prop) : Prop where
  refl : ∀ s, R s s
  trans : ∀ {a b c}, R a b → R b c → R a c

/-- A relation that every transfer, every bookkeeping of the sequencer and every history entry respects. -/
structure TransferFrame (R : State → State → Prop) : Prop extends Rel R where
  seq : ∀ f s, R s (modifySeq f s)
  event : ∀ e s, R s (record e s)
  write : ∀ c r v, Stays R (xferW c r v)
  read : ∀ id, Stays R (xferR id)

/-- A relation that the pin actions on a line respect too. -/
structure PinFrame (R : State → State → Prop) (l : Line) : Prop extends Rel R where
  level : ∀ v s, R s (gpioWrite l v s)
  dir : ∀ v s, R s (gpioDir l v s)
  pullUp : ∀ v s, R s (gpioPullUp l v s)

section Combinators

variable {α β : Type} {R : State → State → Prop}

theorem stays_andThen {o : Op α} {f : α → Op β} (hR : Rel R) (ho : Stays R o)
    (hf : ∀ a, Stays R (f a)) : Stays R (andThen o f) := by
  intro s
  have h := ho s
  unfold andThen
  generalize o s = r at h ⊢
  obtain ⟨r, s1⟩ := r
  cases r with
  | ok a => exact hR.trans h (hf a s1)
  | failed e => exact h
  | hung => exact h

theorem stays_withCleanup {o : Op α} {c : Op Unit} (hR : Rel R) (ho : Stays R o)
    (hc : Stays R c) : Stays R (withCleanup o c) := by
  intro s
  have h := ho s
  unfold withCleanup
  generalize o s = r at h ⊢
  obtain ⟨r, s1⟩ := r
  have h1 := hR.trans h (hc s1)
  generalize hq : c s1 = q at h1
  obtain ⟨q, s2⟩ := q
  cases r <;> cases q <;> simp_all

theorem stays_onError {o : Op α} {c : Op Unit} (hR : Rel R) (ho : Stays R o)
    (hc : Stays R c) : Stays R (onError o c) := by
  intro s
  have h := ho s
  unfold onError
  generalize o s = r at h ⊢
  obtain ⟨r, s1⟩ := r
  have h1 := hR.trans h (hc s1)
  generalize hq : c s1 = q at h1
  obtain ⟨q, s2⟩ := q
  cases r <;> cases q <;> simp_all

theorem stays_attemptAll {os : List (Op Unit)} (hR : Rel R)
    (ho : ∀ o ∈ os, Stays R o) : Stays R (attemptAll os) := by
  induction os with
  | nil => exact fun s => hR.refl s
  | cons o os ih =>
    intro s
    have ih := ih fun o' h => ho o' (List.mem_cons_of_mem _ h)
    have h := ho o (List.mem_cons_self ..) s
    unfold attemptAll
    generalize o s = r at h ⊢
    obtain ⟨r, s1⟩ := r
    have h1 := hR.trans h (ih s1)
    generalize hq : attemptAll os s1 = q at h1
    obtain ⟨q, s2⟩ := q
    cases r <;> cases q <;> simp_all

theorem stays_inOrder {os : List (Op Unit)} (hR : Rel R)
    (ho : ∀ o ∈ os, Stays R o) : Stays R (inOrder os) := by
  induction os with
  | nil => exact fun s => hR.refl s
  | cons o os ih =>
    exact fun s => stays_andThen hR (ho o (List.mem_cons_self ..))
      (fun _ => ih fun o' h => ho o' (List.mem_cons_of_mem _ h)) s

theorem stays_precheck {o : Op α} {b : Bool} (hs : ∀ f s, R s (modifySeq f s)) (ho : Stays R o) :
    Stays R (precheck b o) := by
  intro s
  unfold precheck raise
  split
  · exact hs _ s
  · split
    · exact hs _ s
    · exact ho s

end Combinators

/-! ## Bank driver, transactions and probe -/

section Transfers

variable {R : State → State → Prop} (h : TransferFrame R)

include h

theorem stays_readBank (id : BankId) : Stays R (readBank id) := fun s =>
  h.trans (h.seq _ s) (stays_andThen h.toRel (h.write _ _ _) (fun _ => h.read id) (touch id s))

theorem stays_writeBank (id : BankId) (v m : Byte) : Stays R (writeBank id v m) := by
  intro s
  unfold writeBank
  dsimp only
  split
  · exact h.trans (h.seq _ s) (stays_andThen h.toRel (h.write _ _ _) (fun _ => h.write _ _ _) (touch id s))
  · exact h.trans (h.seq _ s) (stays_andThen h.toRel (h.write _ _ _) (fun _ => h.write _ _ _) (touch id s))

theorem stays_writeBankReg (id : BankId) (reg : Bank → Reg) (v : Byte) : Stays R (writeBankReg id reg v) := fun s =>
  h.trans (h.seq _ s) (h.write _ _ _ (touch id s))

theorem stays_restoreBank (id : BankId) : Stays R (restoreBank id) := fun s => stays_writeBankReg h _ _ _ s

theorem stays_restores (ids : List BankId) : Stays R (attemptAll (ids.map restoreBank)) :=
  stays_attemptAll h.toRel fun o ho => by
    obtain ⟨id, -, rfl⟩ := List.mem_map.1 ho
    exact stays_restoreBank h id

theorem stays_deassertStrobes (m : Byte) : Stays R (deassertStrobes m) := fun s => stays_writeBank h _ _ _ s

theorem stays_transactionCleanup (m : Byte) : Stays R (transactionCleanup m) := by
  intro s
  refine stays_attemptAll h.toRel (fun o ho => ?_) s
  rcases List.mem_append.1 ho with ho | ho
  · split at ho
    · rw [List.mem_singleton.1 ho]; exact stays_deassertStrobes h m
    · simp at ho
  · obtain ⟨id, -, rfl⟩ := List.mem_map.1 ho
    exact stays_restoreBank h id

theorem stays_transaction {α : Type} (m : Byte) {o : Op α} (ho : Stays R o) : Stays R (transaction m o) := fun s =>
  h.trans (h.seq _ s) (stays_withCleanup h.toRel ho (stays_transactionCleanup h m) (freshTransaction s))

theorem stays_recordWrite (e : Option Event) : Stays R (recordWrite e) := by
  intro s
  cases e with
  | none => exact h.refl s
  | some e => exact h.event e s

theorem stays_assertStrobes (kind : CycleKind) (m : Byte) (e : Option Event) : Stays R (assertStrobes kind m e) := by
  intro s
  unfold assertStrobes
  dsimp only
  split
  · exact h.trans (h.seq _ s)
      (stays_andThen h.toRel (stays_writeBank h _ _ _) (fun _ => stays_recordWrite h e) (markStrobed s))
  · refine h.trans (h.seq _ s) (h.trans (h.seq _ (markStrobed s)) (stays_andThen h.toRel (h.write _ _ _) (fun _ => ?_) _))
    intro m
    dsimp only
    split
    · exact stays_andThen h.toRel (stays_recordWrite h e) (fun _ => h.write _ _ _) m
    · exact stays_andThen h.toRel (h.write _ _ _) (fun _ => stays_recordWrite h e) m

theorem stays_driveBank (n : SignalName) (v : Byte) : Stays R (driveBank n v) := fun s => stays_writeBank h _ _ _ s

theorem stays_readDataBank (e : Byte → Event) : Stays R (readDataBank e) := fun s =>
  stays_andThen h.toRel (stays_readBank h _) (fun v m => h.event (e v) m) s

theorem stays_readMemoryOp (a : Addr) : Stays R (readMemoryOp a) := fun s =>
  stays_transaction h _ (stays_andThen h.toRel (stays_driveBank h _ _) fun _ =>
    stays_andThen h.toRel (stays_driveBank h _ _) fun _ =>
      stays_andThen h.toRel (stays_assertStrobes h _ _ _) fun _ => stays_readDataBank h _) s

theorem stays_writeMemoryOp (a : Addr) (v : Byte) : Stays R (writeMemoryOp a v) := fun s =>
  stays_transaction h _ (stays_andThen h.toRel (stays_driveBank h _ _) fun _ =>
    stays_andThen h.toRel (stays_driveBank h _ _) fun _ =>
      stays_andThen h.toRel (stays_driveBank h _ _) fun _ => stays_assertStrobes h _ _ _) s

theorem stays_readIoOp (port : Byte) : Stays R (readIoOp port) := fun s =>
  stays_transaction h _ (stays_andThen h.toRel (stays_driveBank h _ _) fun _ =>
    stays_andThen h.toRel (stays_assertStrobes h _ _ _) fun _ => stays_readDataBank h _) s

theorem stays_writeIoOp (port v : Byte) : Stays R (writeIoOp port v) := fun s =>
  stays_transaction h _ (stays_andThen h.toRel (stays_driveBank h _ _) fun _ =>
    stays_andThen h.toRel (stays_driveBank h _ _) fun _ => stays_assertStrobes h _ _ _) s

theorem stays_probeCleanup : Stays R probeCleanup := fun s => stays_restores h _ s

theorem stays_readRawAddrOp : Stays R readRawAddrOp := fun s =>
  h.trans (h.seq _ s) (stays_onError h.toRel (stays_andThen h.toRel (stays_readBank h _) fun _ =>
    stays_andThen h.toRel (stays_readBank h _) fun _ m => h.refl m) (stays_probeCleanup h) (freshTransaction s))

theorem stays_readRawBankOp (n : SignalName) : Stays R (readRawBankOp n) := fun s =>
  h.trans (h.seq _ s) (stays_onError h.toRel (stays_readBank h _) (stays_probeCleanup h) (freshTransaction s))

end Transfers

/-! ## Pin actions -/

section Pins

variable {R : State → State → Prop} {l : Line} (h : PinFrame R l)

include h

theorem stays_lineAssert (s : State) : R s (lineAssert l s) := h.trans (h.level _ s) (h.dir _ _)

theorem stays_lineRelease (s : State) : R s (lineRelease l s) := by
  unfold lineRelease
  split
  · exact h.trans (h.level _ s) (h.dir _ _)
  · exact h.dir _ s

theorem stays_configureLine (s : State) : R s (configureLine l s) := h.trans (h.pullUp _ s) (stays_lineRelease h _)

theorem stays_pulseLine (pulse : Bool) (s : State) : R s (pulseLine l pulse s) := by
  unfold pulseLine
  split
  · exact h.trans (stays_lineAssert h s) (stays_lineRelease h _)
  · exact stays_lineAssert h s

end Pins

/-! ## Arbiter, configure and single step -/

section Compound

variable {R : State → State → Prop} (h : TransferFrame R)

include h

theorem stays_grabPolls (n : Nat) : Stays R (grabPolls n) := by
  induction n with
  | zero => exact fun s => h.refl s
  | succ n ih =>
    intro s
    refine stays_andThen h.toRel (stays_readBank h _) (fun v => ?_) s
    split
    · exact fun m => h.refl m
    · exact ih

theorem stays_grabOp (hp : PinFrame R .busrq) (ha : ∀ s, R s (setArb .owned s)) : Stays R grabOp := by
  intro s
  unfold grabOp raise
  split
  · exact h.trans (h.seq _ s) (h.event _ _)
  · have h1 := h.trans (stays_lineAssert hp s) (stays_grabPolls h s.params.grabPollLimit _)
    split
    · rename_i heq; rw [heq] at h1; exact h.trans h1 (ha _)
    · rename_i heq; rw [heq] at h1; exact h.trans h1 (h.trans (stays_lineRelease hp _) (h.seq _ _))
    · rename_i s1 heq
      rw [heq] at h1
      have h2 := h.trans h1 (stays_restoreBank h (bankOf s1.params .ctrl) s1)
      split
      · rename_i heq2; rw [heq2] at h2; exact h2
      · rename_i heq2; rw [heq2] at h2; exact h.trans h2 (stays_lineRelease hp _)
    · rename_i heq; rw [heq] at h1; exact h1

theorem stays_releaseOp (hp : PinFrame R .busrq) (ha : ∀ s, R s (setArb .released s)) : Stays R releaseOp := by
  intro s
  unfold releaseOp
  have h1 := h.trans (ha s) (stays_restores h (restoreOrder s.params) (setArb .released s))
  split
  · rename_i heq; rw [heq] at h1; exact h1
  · rename_i heq; rw [heq] at h1; exact h.trans h1 (stays_lineRelease hp _)

theorem stays_configureLines (ls : List Line) (hp : ∀ l ∈ ls, PinFrame R l) (s : State) : R s (configureLines ls s) := by
  induction ls generalizing s with
  | nil => exact h.refl s
  | cons l ls ih =>
    exact h.trans (stays_configureLine (hp l (List.mem_cons_self ..)) s)
      (ih (fun l' h' => hp l' (List.mem_cons_of_mem _ h')) _)

theorem stays_configureOp (hp : ∀ l, PinFrame R l) (ha : ∀ s, R s (setArb .released s))
    (hc : ∀ v s, R s (setConfigured v s)) : Stays R configureOp := by
  intro s
  refine h.trans (h.trans (hc false s) (ha _)) (stays_andThen h.toRel ?_ (fun _ m => ?_) _)
  · refine stays_inOrder h.toRel fun o ho => ?_
    simp only [configureTransfers, List.mem_cons, List.mem_flatMap] at ho
    rcases ho with rfl | ⟨c, -, ho⟩
    · exact h.write _ _ _
    · simp only [configureChip, List.mem_cons, List.not_mem_nil, or_false] at ho
      rcases ho with rfl | ho
      · exact h.write _ _ _
      · rcases ho with rfl | rfl | rfl | rfl | rfl | rfl <;> exact stays_writeBankReg h _ _ _
  · exact h.trans (stays_configureLines h allLines (fun l _ => hp l) m) (hc true _)

theorem stays_writeBytes (bytes : List (Addr × Byte)) : Stays R (writeBytes bytes) := by
  refine stays_inOrder h.toRel fun o ho => ?_
  obtain ⟨x, -, rfl⟩ := List.mem_map.1 ho
  exact stays_writeMemoryOp h _ _

theorem stays_takeSnapshot (target : Addr) (hs : ∀ v s, R s (setPending v s)) : Stays R (takeSnapshot target) := by
  intro s
  unfold takeSnapshot
  split
  · exact hs _ s
  · exact stays_andThen h.toRel (stays_readMemoryOp h _) (fun _ => stays_andThen h.toRel (stays_readMemoryOp h _) fun _ =>
      stays_andThen h.toRel (stays_readMemoryOp h _) fun _ m => hs _ m) s

theorem stays_restoreBytes (hs : ∀ v s, R s (setPending v s)) : Stays R restoreBytes := by
  intro s
  unfold restoreBytes
  split
  · exact stays_andThen h.toRel (stays_writeBytes h _) (fun _ m => hs _ m) s
  · exact h.refl s

theorem stays_runAndSample (hr : PinFrame R .reset) (hw : PinFrame R .wait) : Stays R runAndSample := by
  intro s
  refine stays_andThen h.toRel (fun m => h.trans (stays_pulseLine hr true m) (stays_lineAssert hw _)) (fun _ => ?_) s
  refine stays_andThen h.toRel (stays_readRawAddrOp h) fun a => ?_
  refine stays_andThen h.toRel (stays_readRawBankOp h _) fun v => ?_
  refine stays_andThen h.toRel (fun m => ?_) fun _ m => h.refl m
  simp only [act]
  split
  · exact stays_lineRelease hw m
  · exact h.refl m

theorem stays_singleStepOp (target : Addr) (hb : PinFrame R .busrq) (hr : PinFrame R .reset) (hw : PinFrame R .wait)
    (ha : ∀ v s, R s (setArb v s)) (hs : ∀ v s, R s (setPending v s)) : Stays R (singleStepOp target) := by
  have hg := stays_grabOp h hb (ha .owned)
  have hl := stays_releaseOp h hb (ha .released)
  refine stays_andThen h.toRel hg fun _ => ?_
  refine stays_andThen h.toRel (stays_onError h.toRel
    (stays_andThen h.toRel (stays_takeSnapshot h target hs) fun _ => stays_writeBytes h _) hl) fun _ => ?_
  refine stays_andThen h.toRel hl fun _ => ?_
  refine stays_andThen h.toRel (stays_runAndSample h hr hw) fun _ => ?_
  refine stays_andThen h.toRel hg fun _ => ?_
  refine stays_andThen h.toRel (stays_onError h.toRel (stays_restoreBytes h hs) hl) fun _ => ?_
  exact stays_andThen h.toRel hl fun _ m => h.refl m

end Compound

end Sys2Proof.Machine
end

