-- ==== Sys2Proof/Laws/Exec.lean ====
section
/-! SUPPORT. What a whole instruction can do: a relation that every update respects relates the state before an
instruction, and before a step, to the state after it. -/

namespace Sys2Proof.Machine

/-- A relation that every update of a command respects. -/
structure CommandFrame (R : State → State → Prop) : Prop extends TransferFrame R where
  pins : ∀ l, PinFrame R l
  arb : ∀ v s, R s (setArb v s)
  configured : ∀ v s, R s (setConfigured v s)
  pending : ∀ v s, R s (setPending v s)
  sequencer : ∀ q s, R s (setSeq q s)
  respond : ∀ w s, R s (respond w s)
  uopResult : ∀ r s, R s (setUopResult r s)

/-- What an accepted command answers: its response over what its body did (R110). -/
theorem command_next {i : Instr} {body : Op (BitVec 16 × Byte)} {s t : State} (h : command i body s = .next t) :
    registryOk s.params = true ∧
      t = finish (body (setSeq (some (freshSeq i)) s)).1 (body (setSeq (some (freshSeq i)) s)).2 := by
  unfold command at h
  split at h
  · rename_i hr
    exact ⟨hr, by simpa using h.symm⟩
  · cases h

/-- Under an accepted registry a command always answers a next state. -/
theorem command_of_ok {i : Instr} {body : Op (BitVec 16 × Byte)} {s : State} (h : registryOk s.params = true) :
    command i body s =
      .next (finish (body (setSeq (some (freshSeq i)) s)).1 (body (setSeq (some (freshSeq i)) s)).2) := by
  simp [command, h]

section

variable {R : State → State → Prop}

theorem stays_noData {o : Op Unit} (hR : Rel R) (ho : Stays R o) : Stays R (noData o) :=
  stays_andThen hR ho fun _ s => hR.refl s

theorem stays_inD8 {o : Op Byte} (hR : Rel R) (ho : Stays R o) : Stays R (inD8 o) :=
  stays_andThen hR ho fun _ s => hR.refl s

theorem stays_inD16 {o : Op Addr} (hR : Rel R) (ho : Stays R o) : Stays R (inD16 o) :=
  stays_andThen hR ho fun _ s => hR.refl s

theorem finish_stays (hR : Rel R) (hw : ∀ w s, R s (respond w s)) (r : Res (BitVec 16 × Byte)) (s : State) :
    R s (finish r s) := by
  unfold finish
  split
  · exact hw _ s
  · exact hw _ s
  · exact hR.refl s

/-- A command relates its start and its end when its body does. -/
theorem command_stays (hR : Rel R) (hq : ∀ q s, R s (setSeq q s)) (hw : ∀ w s, R s (respond w s)) {i : Instr}
    {body : Op (BitVec 16 × Byte)} (hb : Stays R body) {s t : State} (h : command i body s = .next t) : R s t := by
  rw [(command_next h).2]
  exact hR.trans (hR.trans (hq _ s) (hb _)) (finish_stays hR hw _ _)

/-- A micro-op relates its start and its end when its body does. -/
theorem microOp_stays (hR : Rel R) (hq : ∀ q s, R s (setSeq q s)) (hu : ∀ r s, R s (setUopResult r s)) {i : Instr}
    {body : Op UopResult} (hb : Stays R body) {s t : State} (h : microOp i body s = .next t) : R s t := by
  have hresult : ∀ (r : Res UopResult) m, R m (uopResultOf r m) := by
    intro r m
    cases r
    · exact hu _ m
    · exact hu _ m
    · exact hR.refl m
  unfold microOp at h
  split at h
  · split at h
    · cases h; exact hR.trans (hb s) (hresult _ _)
    · cases h
      split
      · exact hR.trans (hR.trans (hq _ s) (hb _)) (hresult _ _)
      · exact hR.trans (hR.trans (hR.trans (hq _ s) (hb _)) (hq none _)) (hresult _ _)
  · cases h

/-- Every instruction that answers a next state relates it to the state before. -/
theorem exec_stays (h : CommandFrame R) {i : Instr} {s t : State} (he : exec i s = .next t) : R s t := by
  have hR := h.toRel
  have hT := h.toTransferFrame
  have pre : ∀ {α : Type} {b : Bool} {o : Op α}, Stays R o → Stays R (precheck b o) :=
    fun ho => stays_precheck h.seq ho
  cases i with
  | configure =>
    exact command_stays hR h.sequencer h.respond
      (stays_noData hR (stays_configureOp hT h.pins (h.arb _) h.configured)) he
  | grab =>
    exact command_stays hR h.sequencer h.respond
      (pre (stays_noData hR (stays_grabOp hT (h.pins _) (h.arb _)))) he
  | release =>
    exact command_stays hR h.sequencer h.respond
      (pre (stays_noData hR (stays_releaseOp hT (h.pins _) (h.arb _)))) he
  | readMem a =>
    exact command_stays hR h.sequencer h.respond (pre (stays_inD8 hR (stays_readMemoryOp hT a))) he
  | writeMem a v =>
    exact command_stays hR h.sequencer h.respond (pre (stays_noData hR (stays_writeMemoryOp hT a v))) he
  | readIo port =>
    exact command_stays hR h.sequencer h.respond (pre (stays_inD8 hR (stays_readIoOp hT port))) he
  | writeIo port v =>
    exact command_stays hR h.sequencer h.respond (pre (stays_noData hR (stays_writeIoOp hT port v))) he
  | readRawAddr =>
    exact command_stays hR h.sequencer h.respond (pre (stays_inD16 hR (stays_readRawAddrOp hT))) he
  | readRawData =>
    exact command_stays hR h.sequencer h.respond (pre (stays_inD8 hR (stays_readRawBankOp hT _))) he
  | readRawCtrl =>
    exact command_stays hR h.sequencer h.respond (pre (stays_inD8 hR (stays_readRawBankOp hT _))) he
  | setWait active =>
    refine command_stays hR h.sequencer h.respond (pre (stays_noData hR ?_)) he
    intro m
    cases active
    · exact stays_lineRelease (h.pins _) m
    · exact stays_lineAssert (h.pins _) m
  | singleStep target =>
    exact command_stays hR h.sequencer h.respond
      (pre (stays_singleStepOp hT target (h.pins _) (h.pins _) (h.pins _) h.arb h.pending)) he
  | controlLine signal pulse =>
    refine command_stays hR h.sequencer h.respond ?_ he
    split
    · exact pre (stays_noData hR fun m => stays_pulseLine (h.pins _) pulse m)
    · exact fun m => h.seq _ m
  | readBank c k =>
    simp only [exec, execReadBank] at he
    split at he
    · exact microOp_stays hR h.sequencer h.uopResult
        (stays_andThen hR (stays_readBank hT _) fun _ m => hR.refl m) he
    · cases he
  | writeBank c k v m =>
    simp only [exec, execWriteBank] at he
    split at he
    · exact microOp_stays hR h.sequencer h.uopResult
        (stays_andThen hR (stays_writeBank hT _ _ _) fun _ m => hR.refl m) he
    · cases he
  | restoreBank c k =>
    simp only [exec, execRestoreBank] at he
    split at he
    · exact microOp_stays hR h.sequencer h.uopResult
        (stays_andThen hR (stays_restoreBank hT _) fun _ m => hR.refl m) he
    · cases he
  | lineAssert code =>
    simp only [exec, execLineAssert] at he
    split at he
    · exact microOp_stays hR h.sequencer h.uopResult
        (stays_andThen hR (fun m => stays_lineAssert (h.pins _) m) fun _ m => hR.refl m) he
    · cases he
  | lineRelease code =>
    simp only [exec, execLineRelease] at he
    split at he
    · exact microOp_stays hR h.sequencer h.uopResult
        (stays_andThen hR (fun m => stays_lineRelease (h.pins _) m) fun _ m => hR.refl m) he
    · cases he

end

end Sys2Proof.Machine
end

