-- ==== Sys2Proof/Laws/PerInstr.lean ====
section
/-! SUPPORT. One statement made instruction by instruction: the lowest byte of an instruction's word is its opcode byte
(R111, R122). -/

namespace Sys2Proof.Laws.OpcodeByte

/-- The lowest byte of the word is the opcode byte of the instruction's row. -/
def Statement (i : Instr) : Prop := opField (encode i) = opcodeByte i

/-- The opcode of a command word (R111). -/
theorem of_command (op : Byte) (a : BitVec 16) (b : Byte) : opField (commandWord op a b) = op := by
  ext n hn; simp only [opField, commandWord, BitVec.getElem_extractLsb', BitVec.getLsbD_append]; simp [hn]

/-- The micro-opcode of a micro-op word (R122). -/
theorem of_micro (op : Byte) (c : BitVec 2) (k : BitVec 1) (l : BitVec 3) (v m : Byte) :
    opField (microWord op c k l v m) = op := by
  ext n hn; simp only [opField, microWord, BitVec.getElem_extractLsb', BitVec.getLsbD_append]; simp [hn]

theorem configure : Statement .configure := of_command ..
theorem grab : Statement .grab := of_command ..
theorem release : Statement .release := of_command ..
theorem readMem (address : Addr) : Statement (.readMem address) := of_command ..
theorem writeMem (address : Addr) (data : Byte) : Statement (.writeMem address data) := of_command ..
theorem readIo (port : Byte) : Statement (.readIo port) := of_command ..
theorem writeIo (port data : Byte) : Statement (.writeIo port data) := of_command ..
theorem readRawAddr : Statement .readRawAddr := of_command ..
theorem readRawData : Statement .readRawData := of_command ..
theorem readRawCtrl : Statement .readRawCtrl := of_command ..
theorem setWait (active : Bool) : Statement (.setWait active) := of_command ..
theorem singleStep (jumpTarget : Addr) : Statement (.singleStep jumpTarget) := of_command ..
theorem controlLine (signal : Byte) (pulse : Bool) : Statement (.controlLine signal pulse) := of_command ..
theorem readBank (chip : BitVec 2) (bank : Bank) : Statement (.readBank chip bank) := of_micro ..
theorem writeBank (chip : BitVec 2) (bank : Bank) (value mask : Byte) : Statement (.writeBank chip bank value mask) :=
  of_micro ..
theorem restoreBank (chip : BitVec 2) (bank : Bank) : Statement (.restoreBank chip bank) := of_micro ..
theorem lineAssert (line : BitVec 3) : Statement (.lineAssert line) := of_micro ..
theorem lineRelease (line : BitVec 3) : Statement (.lineRelease line) := of_micro ..

end Sys2Proof.Laws.OpcodeByte
end

