-- ==== Sys2Proof/Laws/Pins.lean ====
section
/-! SUPPORT. The five discrete lines are on five distinct host pins (R16), and pins chosen distinct are taken as they are. -/

namespace Sys2Proof.Machine

theorem le_sum_of_mem {taken : List Nat} {x : Nat} (h : x ∈ taken) : x ≤ taken.sum := by
  induction taken with
  | nil => cases h
  | cons a as ih =>
    rcases List.mem_cons.1 h with rfl | h
    · simp
    · have := ih h; simp; omega

theorem freePin_notMem (taken : List Nat) (chosen : Nat) : freePin taken chosen ∉ taken := by
  unfold freePin
  split
  · intro h; have := le_sum_of_mem h; omega
  · assumption

theorem freePin_of_notMem {taken : List Nat} {chosen : Nat} (h : chosen ∉ taken) : freePin taken chosen = chosen := by
  simp [freePin, h]

/-- No two lines share a host pin (R16). -/
theorem gpioPin_injective (p : Params) {l l' : Line} (h : gpioPin p l = gpioPin p l') : l = l' := by
  have h1 := freePin_notMem [p.gpioPins.busrq] p.gpioPins.wait
  have h2 := freePin_notMem [p.gpioPins.busrq, freePin [p.gpioPins.busrq] p.gpioPins.wait] p.gpioPins.reset
  have h3 := freePin_notMem [gpioPin p .busrq, gpioPin p .wait, gpioPin p .reset] p.gpioPins.int
  have h4 := freePin_notMem [gpioPin p .busrq, gpioPin p .wait, gpioPin p .reset, gpioPin p .int] p.gpioPins.nmi
  change gpioPin p .wait ∉ [gpioPin p .busrq] at h1
  change gpioPin p .reset ∉ [gpioPin p .busrq, gpioPin p .wait] at h2
  change gpioPin p .int ∉ _ at h3
  change gpioPin p .nmi ∉ _ at h4
  simp only [List.mem_cons, List.not_mem_nil, or_false, not_or] at h1 h2 h3 h4
  cases l <;> cases l' <;> first | rfl | (exfalso; omega)

/-- Pins chosen distinct are the identifiers (R16). -/
theorem gpioPin_of_distinct {p : Params}
    (h : [p.gpioPins.busrq, p.gpioPins.wait, p.gpioPins.reset, p.gpioPins.int, p.gpioPins.nmi].Nodup) (l : Line) :
    gpioPin p l = ofLine p.gpioPins l := by
  simp only [List.nodup_cons, List.mem_cons, List.not_mem_nil, or_false, not_or] at h
  obtain ⟨⟨h1, h2, h3, h4⟩, ⟨h5, h6, h7⟩, ⟨h8, h9⟩, h10, -⟩ := h
  have e1 := freePin_of_notMem (taken := [p.gpioPins.busrq]) (chosen := p.gpioPins.wait) (by simp; omega)
  have e2 := freePin_of_notMem (taken := [p.gpioPins.busrq, p.gpioPins.wait]) (chosen := p.gpioPins.reset)
    (by simp; omega)
  have e3 := freePin_of_notMem (taken := [p.gpioPins.busrq, p.gpioPins.wait, p.gpioPins.reset])
    (chosen := p.gpioPins.int) (by simp; omega)
  have e4 := freePin_of_notMem (taken := [p.gpioPins.busrq, p.gpioPins.wait, p.gpioPins.reset, p.gpioPins.int])
    (chosen := p.gpioPins.nmi) (by simp; omega)
  cases l <;> simp [gpioPin, ofLine, e1, e2, e3, e4]

end Sys2Proof.Machine
end

