-- ==== Sys2Proof/Laws/Runs.lean ====
section
/-! SUPPORT. What the operations do when every transfer is answered: the port actions they add to the history, the draws
they use up, and the registers and pins they leave. -/

namespace Sys2Proof.Machine

/-- `n` port actions `evs` took `s` to `t`: no bus cycle was recorded, and the parameters and the block's own fields but for
the discrete pins are as before. -/
structure Ran (n : Nat) (evs : List Event) (s t : State) : Prop where
  params : t.params = s.params
  configured : t.configured = s.configured
  arb : t.arb = s.arb
  pending : t.pending = s.pending
  hung : t.hung = s.hung
  draws : ∀ i, drawAt t i = drawAt s (n + i)
  trace : t.history.filter isPortAction = s.history.filter isPortAction ++ evs
  cycles : t.history.filter isBusCycle = s.history.filter isBusCycle

theorem Ran.refl (s : State) : Ran 0 [] s s where
  params := rfl
  configured := rfl
  arb := rfl
  pending := rfl
  hung := rfl
  draws i := by rw [Nat.zero_add]
  trace := by simp
  cycles := rfl

theorem Ran.trans {n m : Nat} {es fs : List Event} {s t u : State} (h : Ran n es s t) (k : Ran m fs t u) :
    Ran (n + m) (es ++ fs) s u where
  params := k.params.trans h.params
  configured := k.configured.trans h.configured
  arb := k.arb.trans h.arb
  pending := k.pending.trans h.pending
  hung := k.hung.trans h.hung
  draws i := by rw [k.draws, h.draws, Nat.add_assoc]
  trace := by rw [k.trace, h.trace, List.append_assoc]
  cycles := k.cycles.trans h.cycles

/-- Changes of the sequencer record are no port action. -/
theorem Ran.modifySeq (f : Sequencer → Sequencer) (s : State) : Ran 0 [] s (modifySeq f s) where
  params := rfl
  configured := rfl
  arb := rfl
  pending := rfl
  hung := rfl
  draws i := by rw [Nat.zero_add]; rfl
  trace := by simp
  cycles := rfl

/-- Transfers answered after a run are those answered further on before it. -/
theorem Ran.answered {n k : Nat} {es : List Event} {s t : State} (h : Ran n es s t) (ha : TransfersAnswered (n + k) s) :
    TransfersAnswered k t := fun i hi => by rw [h.draws]; exact ha _ (by omega)

/-- An entry of the Contention faults is one. -/
theorem mem_contentionEvents {s : State} {d : Draw} {e : Event} (h : e ∈ contentionEvents s d) :
    ∃ id m, e = .contention id m := by
  obtain ⟨id, -, h⟩ := List.mem_filterMap.1 h
  split at h
  · cases h
  · cases h; exact ⟨id, _, rfl⟩

@[simp] theorem contentionEvents_noAction (s : State) (d : Draw) : (contentionEvents s d).filter isPortAction = [] :=
  List.filter_eq_nil_iff.2 fun e he => by
    obtain ⟨id, m, rfl⟩ := mem_contentionEvents he
    simp [isPortAction, isTransfer, isGpio]

@[simp] theorem contentionEvents_noCycle (s : State) (d : Draw) : (contentionEvents s d).filter isBusCycle = [] :=
  List.filter_eq_nil_iff.2 fun e he => by
    obtain ⟨id, m, rfl⟩ := mem_contentionEvents he
    simp [isBusCycle]

/-- One port action whose act records `e` and changes chips and pins at most. -/
theorem portAction_ran {d : Draw} {f : State → State} {e : Event} {s : State} (he : isPortAction e = true)
    (hc : isBusCycle e = false) (hh : ∀ m, (f m).history = m.history ++ [e]) (hp : ∀ m, (f m).params = m.params)
    (hcf : ∀ m, (f m).configured = m.configured) (ha : ∀ m, (f m).arb = m.arb) (hpe : ∀ m, (f m).pending = m.pending)
    (hhu : ∀ m, (f m).hung = m.hung) (hs : ∀ m, (f m).script = m.script) (hd : ∀ m, (f m).draws = m.draws) :
    Ran 1 [e] s (portAction d f (dropDraw s)) := by
  obtain ⟨m, hm⟩ := portAction_history d f (dropDraw s)
  refine ⟨by simp [hp], by simp [hcf], by simp [ha], by simp [hpe], by simp [hhu], fun i => ?_, ?_, ?_⟩
  · rw [drawAt_portAction d f i (by simp [hs]) (by simp [hd]), drawAt_dropDraw, Nat.add_comm]
  · rw [hm, hh]; simp [he]
  · rw [hm, hh]; simp [hc]

/-! ## Transfers and pins -/

/-- A register write that is answered (R125). -/
theorem xferW_ok {c : ChipId} {r : Reg} {v : Byte} {s : State} (h : (drawAt s 0).xfer = .ok) :
    ∃ t, xferW c r v s = (.ok (), t) ∧ Ran 1 [.xferW c (regAddr s.params r) v true] s t ∧
      t.chips = writeReg s.params s.chips c r v ∧ t.lines = s.lines := by
  rcases xferW_cases c r v s with ⟨-, hx⟩ | ⟨x, hx, -⟩ | ⟨hx, -⟩
  · refine ⟨_, hx, portAction_ran rfl rfl ?_ ?_ ?_ ?_ ?_ ?_ ?_ ?_, by simp, by simp⟩ <;> intro m <;> simp
  · rw [h] at hx; cases hx
  · rw [h] at hx; cases hx

/-- A read of an input latch that is answered (R44). -/
theorem xferR_ok {id : BankId} {s : State} (h : (drawAt s 0).xfer = .ok) :
    ∃ t, xferR id s = (.ok (gpioByte (envMove (drawAt s 0) (dropDraw s)) (drawAt s 0) id), t) ∧
      Ran 1 [.xferR id.chip (gpioAddr s.params id.bank)
        (some (gpioByte (envMove (drawAt s 0) (dropDraw s)) (drawAt s 0) id))] s t ∧
      t.chips = s.chips ∧ t.lines = s.lines := by
  rcases xferR_cases id s with ⟨-, hx⟩ | ⟨x, hx, -⟩ | ⟨hx, -⟩
  · refine ⟨_, hx, portAction_ran rfl rfl ?_ ?_ ?_ ?_ ?_ ?_ ?_ ?_, by simp, by simp⟩ <;> intro m <;> simp
  · rw [h] at hx; cases hx
  · rw [h] at hx; cases hx

/-- `GpioW` (R135). -/
theorem gpioWrite_ran (l : Line) (v : Bool) (s : State) :
    Ran 1 [.gpioW (gpioPin s.params l) v] s (gpioWrite l v s) ∧ (gpioWrite l v s).chips = s.chips ∧
      (gpioWrite l v s).lines = withLine s.lines l { ofLine s.lines l with out := v } := by
  refine ⟨?_, by simp [gpioWrite], by simp [gpioWrite]⟩
  obtain ⟨m, hm⟩ := portAction_history (drawAt s 0)
    (fun m => setPin l { ofLine m.lines l with out := v } (record (.gpioW (pinOf m l) v) m)) (dropDraw s)
  refine ⟨by simp [gpioWrite], by simp [gpioWrite], by simp [gpioWrite], by simp [gpioWrite], by simp [gpioWrite],
    fun i => ?_, ?_, ?_⟩
  · rw [gpioWrite, drawAt_portAction _ _ i (by simp) (by simp), drawAt_dropDraw, Nat.add_comm]
  · rw [gpioWrite, hm]; simp [pinOf, isPortAction, isTransfer, isGpio]
  · rw [gpioWrite, hm]; simp [isBusCycle]

/-- `GpioDir` (R135). -/
theorem gpioDir_ran (l : Line) (v : Dir) (s : State) :
    Ran 1 [.gpioDir (gpioPin s.params l) v] s (gpioDir l v s) ∧ (gpioDir l v s).chips = s.chips ∧
      (gpioDir l v s).lines = withLine s.lines l { ofLine s.lines l with dir := v } := by
  refine ⟨?_, by simp [gpioDir], by simp [gpioDir]⟩
  obtain ⟨m, hm⟩ := portAction_history (drawAt s 0)
    (fun m => setPin l { ofLine m.lines l with dir := v } (record (.gpioDir (pinOf m l) v) m)) (dropDraw s)
  refine ⟨by simp [gpioDir], by simp [gpioDir], by simp [gpioDir], by simp [gpioDir], by simp [gpioDir],
    fun i => ?_, ?_, ?_⟩
  · rw [gpioDir, drawAt_portAction _ _ i (by simp) (by simp), drawAt_dropDraw, Nat.add_comm]
  · rw [gpioDir, hm]; simp [pinOf, isPortAction, isTransfer, isGpio]
  · rw [gpioDir, hm]; simp [isBusCycle]

/-- `GpioPU` (R135). -/
theorem gpioPullUp_ran (l : Line) (v : Bool) (s : State) :
    Ran 1 [.gpioPU (gpioPin s.params l) v] s (gpioPullUp l v s) ∧ (gpioPullUp l v s).chips = s.chips ∧
      (gpioPullUp l v s).lines = withLine s.lines l { ofLine s.lines l with pullUp := v } := by
  refine ⟨?_, by simp [gpioPullUp], by simp [gpioPullUp]⟩
  obtain ⟨m, hm⟩ := portAction_history (drawAt s 0)
    (fun m => setPin l { ofLine m.lines l with pullUp := v } (record (.gpioPU (pinOf m l) v) m)) (dropDraw s)
  refine ⟨by simp [gpioPullUp], by simp [gpioPullUp], by simp [gpioPullUp], by simp [gpioPullUp], by simp [gpioPullUp],
    fun i => ?_, ?_, ?_⟩
  · rw [gpioPullUp, drawAt_portAction _ _ i (by simp) (by simp), drawAt_dropDraw, Nat.add_comm]
  · rw [gpioPullUp, hm]; simp [pinOf, isPortAction, isTransfer, isGpio]
  · rw [gpioPullUp, hm]; simp [isBusCycle]

/-! ## Banks -/

/-- A register write to a bank, answered (R35). -/
theorem writeBankReg_ok {id : BankId} {reg : Bank → Reg} {v : Byte} {s : State} (h : TransfersAnswered 1 s) :
    ∃ t, writeBankReg id reg v s = (.ok (), t) ∧ Ran 1 [wroteReg s.params id reg v] s t ∧
      t.chips = writeReg s.params s.chips id.chip (reg id.bank) v ∧ t.lines = s.lines := by
  have h0 : Ran 0 [] s (touch id s) := Ran.modifySeq _ s
  obtain ⟨t, e, r, c, l⟩ := xferW_ok (c := id.chip) (r := reg id.bank) (v := v) (s := touch id s)
    (by rw [h0.draws]; exact h _ (by omega))
  exact ⟨t, e, by simpa [wroteReg] using h0.trans r, by rw [c]; simp, by rw [l]; simp⟩

/-- `restoreBank` answered (R170). -/
theorem restoreBank_ok {id : BankId} {s : State} (h : TransfersAnswered 1 s) :
    ∃ t, restoreBank id s = (.ok (), t) ∧ Ran 1 (restoreTrace s.params id) s t ∧
      t.chips = writeReg s.params s.chips id.chip (.iodir id.bank) (allIn s.params) ∧ t.lines = s.lines :=
  writeBankReg_ok h

/-- `readBank` answered (R168). -/
theorem readBank_ok {id : BankId} {s : State} (h : TransfersAnswered 2 s) :
    ∃ v t, readBank id s = (.ok v, t) ∧ Ran 2 (readBankTrace s.params id v) s t ∧
      t.chips = writeReg s.params s.chips id.chip (.iodir id.bank) (allIn s.params) ∧ t.lines = s.lines := by
  have h0 : Ran 0 [] s (touch id s) := Ran.modifySeq _ s
  obtain ⟨t1, e1, r1, c1, l1⟩ := xferW_ok (c := id.chip) (r := .iodir id.bank) (v := allIn s.params) (s := touch id s)
    (by rw [h0.draws]; exact h _ (by omega))
  obtain ⟨t2, e2, r2, c2, l2⟩ := xferR_ok (id := id) (s := t1) (by rw [r1.draws, h0.draws]; exact h _ (by omega))
  refine ⟨_, t2, ?_, by simpa [readBankTrace, wroteReg, r1.params] using h0.trans (r1.trans r2), by rw [c2, c1]; simp,
    by rw [l2, l1]; simp⟩
  simp only [readBank, andThen, e1, e2]

/-- `writeBank` answered, in either order (R169): the bank's latch and direction are written. -/
theorem writeBank_ok {id : BankId} {v m : Byte} {s : State} (h : TransfersAnswered 2 s) :
    ∃ t, writeBank id v m s = (.ok (), t) ∧ Ran 2 (writeBankTrace s.params id v m) s t ∧ t.lines = s.lines ∧
      t.chips = (match s.params.writeOrder with
        | .latchFirst => writeReg s.params (writeReg s.params s.chips id.chip (.olat id.bank) v) id.chip (.iodir id.bank)
            (dirVal s.params m)
        | .dirFirst => writeReg s.params (writeReg s.params s.chips id.chip (.iodir id.bank) (dirVal s.params m)) id.chip
            (.olat id.bank) v) := by
  have h0 : Ran 0 [] s (touch id s) := Ran.modifySeq _ s
  have ok0 : (drawAt (touch id s) 0).xfer = .ok := by rw [h0.draws]; exact h _ (by omega)
  have ok1 : ∀ {es t}, Ran 1 es (touch id s) t → (drawAt t 0).xfer = .ok := fun r => by
    rw [r.draws, h0.draws]; exact h _ (by omega)
  cases ho : s.params.writeOrder with
  | latchFirst =>
    obtain ⟨t1, e1, r1, c1, l1⟩ := xferW_ok (c := id.chip) (r := .olat id.bank) (v := v) ok0
    obtain ⟨t2, e2, r2, c2, l2⟩ := xferW_ok (c := id.chip) (r := .iodir id.bank) (v := dirVal s.params m) (ok1 r1)
    refine ⟨t2, ?_, by simpa [writeBankTrace, wroteReg, ho, r1.params] using h0.trans (r1.trans r2),
      by rw [l2, l1]; simp, by rw [c2, c1, r1.params]; simp⟩
    simp only [writeBank, andThen, ho, e1, e2]
  | dirFirst =>
    obtain ⟨t1, e1, r1, c1, l1⟩ := xferW_ok (c := id.chip) (r := .iodir id.bank) (v := dirVal s.params m) ok0
    obtain ⟨t2, e2, r2, c2, l2⟩ := xferW_ok (c := id.chip) (r := .olat id.bank) (v := v) (ok1 r1)
    refine ⟨t2, ?_, by simpa [writeBankTrace, wroteReg, ho, r1.params] using h0.trans (r1.trans r2),
      by rw [l2, l1]; simp, by rw [c2, c1, r1.params]; simp⟩
    simp only [writeBank, andThen, ho, e1, e2]

/-! ## Lines -/

/-- `lineAssert` (R171). -/
theorem lineAssert_ran (l : Line) (s : State) :
    Ran 2 (assertTrace s.params l) s (lineAssert l s) ∧ (lineAssert l s).chips = s.chips ∧
      (lineAssert l s).lines = withLine s.lines l (assertedPin s.params l (ofLine s.lines l)) := by
  obtain ⟨r1, c1, l1⟩ := gpioWrite_ran l (activeLevel s.params (lineSignal l)) s
  obtain ⟨r2, c2, l2⟩ := gpioDir_ran l .output (gpioWrite l (activeLevel s.params (lineSignal l)) s)
  refine ⟨by simpa [assertTrace, lineAssert, r1.params] using r1.trans r2, by rw [lineAssert, c2, c1], ?_⟩
  rw [lineAssert, l2, l1]
  cases l <;> rfl

/-- `lineRelease` (R172). -/
theorem lineRelease_ran (l : Line) (s : State) :
    (∃ n, Ran n (releaseTrace s.params l) s (lineRelease l s)) ∧ (lineRelease l s).chips = s.chips ∧
      (lineRelease l s).lines = withLine s.lines l (releasedPin s.params l (ofLine s.lines l)) := by
  unfold lineRelease releaseTrace releasedPin
  split
  · obtain ⟨r1, c1, l1⟩ := gpioWrite_ran l false s
    obtain ⟨r2, c2, l2⟩ := gpioDir_ran l .output (gpioWrite l false s)
    refine ⟨⟨2, by simpa [r1.params] using r1.trans r2⟩, by rw [c2, c1], ?_⟩
    rw [l2, l1]
    cases l <;> rfl
  · obtain ⟨r1, c1, l1⟩ := gpioDir_ran l .input s
    exact ⟨⟨1, r1⟩, c1, l1⟩

end Sys2Proof.Machine
end

