-- ==== Sys2Proof/Tests/Slice0.lean ====
section
/-! SUPPORT. The model's own tests. Expected words, frames, responses and end states are those of 95_test_vectors.md and of
the encoding tables of 30_encoding.md. -/

namespace Sys2Proof.Tests

open Sys2Proof.Machine

set_option Elab.async false

/-! ## Small states -/

/-- An environment that answers every transfer, grants and takes back the bus at once, and does nothing else. -/
def calm : Draw where
  xfer := .ok
  cpuMove := true
  cpuFetch := false
  cycleEnds := false
  cpuStores := []
  between := ⟨⟨0, 0xFF, 0xFF⟩, ⟨0, 0xFF, 0xFF⟩, ⟨0, 0xFF, 0xFF⟩, ⟨0, 0xFF, 0xFF⟩, ⟨0, 0xFF, 0xFF⟩, ⟨0, 0xFF, 0xFF⟩⟩
  banks := ⟨⟨0, 0xFF, 0xFF⟩, ⟨0, 0xFF, 0xFF⟩, ⟨0, 0xFF, 0xFF⟩, ⟨0, 0xFF, 0xFF⟩, ⟨0, 0xFF, 0xFF⟩, ⟨0, 0xFF, 0xFF⟩⟩
  lineFloat := ⟨true, true, true, true, true⟩
  busByte := 0x77
  spiByte := 0x99

/-- The parameters of the vectors: two chips, three polls, `SimMem`. -/
def params : Params := { defaultParams .two 3 ⟨10, 11, 12, 13, 14⟩ 0 with oracle := .simMem }

/-- Power-on with those parameters and `n` calm draws. -/
def powered (n : Nat) : State := { State.powerOn params with script := List.replicate n calm }

/-- A configured bank, and a configured chip. -/
def restBank : BankRegs := ⟨0xFF, 0, 0xFF, 0, 0⟩
def restChip : ChipRegs := ⟨0x28, restBank, restBank⟩

/-- A released pin. -/
def restPin : LinePin := ⟨.input, false, true⟩

/-- `CleanConfigured` (R379). -/
def clean (n : Nat) : State :=
  { powered n with configured := true, chips := ⟨restChip, restChip, porChip⟩,
                   lines := ⟨restPin, restPin, restPin, restPin, restPin⟩ }

/-- `CleanOwned` (R379). -/
def owned (n : Nat) : State :=
  { clean n with arb := .owned, lines := { (clean n).lines with busrq := ⟨.output, false, true⟩ }, cpu := ⟨true, false, false⟩ }

/-- Transfer `k` fails and leaves `v`. -/
def failing (k : Nat) (v : Byte) (s : State) : State := { s with script := s.script.set k { calm with xfer := .err v } }

/-- The state after an instruction. -/
def after (o : Host.Outcome State Fault Refusal) (s : State) : State :=
  match o with
  | .next t => t
  | _ => s

/-- The bytes of a transfer's frame, with the byte a read returned, and whether it completed (R125). -/
def frame : Event → List Byte × Bool
  | .xferW c r v ok => ([ctrlByte params c false, r, v], ok)
  | .xferR c r (some v) => ([ctrlByte params c true, r, v], true)
  | .xferR c r none => ([ctrlByte params c true, r], false)
  | _ => ([], true)

/-- The frames an instruction put on the transport. -/
def frames (i : Instr) (s : State) : List (List Byte × Bool) :=
  ((portActions s (after (exec i s) s)).filter isTransfer).map frame

/-- The frames that completed. -/
def okFrames (l : List (List Byte)) : List (List Byte × Bool) := l.map fun f => (f, true)

/-- The response of an instruction. -/
def answer (i : Instr) (s : State) : Option Reply := (after (exec i s) s).response

/-- The GPIO actions of an instruction. -/
def pins (i : Instr) (s : State) : List Event := (portActions s (after (exec i s) s)).filter isGpio

/-- Whether an instruction answers a next state. -/
def runs (i : Instr) (s : State) : Bool :=
  match exec i s with
  | .next _ => true
  | _ => false

theorem next_of_runs {i : Instr} {s : State} (h : runs i s = true) : exec i s = .next (after (exec i s) s) := by
  revert h
  unfold runs after
  cases exec i s <;> simp

/-! ## WellFormed: one ill-formed term for each check -/

theorem test_chip_absent : WellFormed .two (.readBank 2#2 .portA) = false := by decide
theorem test_chip_unassigned : WellFormed .three (.writeBank 3#2 .portB 0 0) = false := by decide
theorem test_chip_present : WellFormed .three (.restoreBank 2#2 .portB) = true := by decide
theorem test_line_unassigned : WellFormed .three (.lineAssert 5#3) = false := by decide
theorem test_line_assigned : WellFormed .two (.lineRelease 4#3) = true := by decide

/-! ## Decoding: words written out from R111, R112, R122 and R123, and words they refuse -/

theorem test_decode_commands :
    [0x00000001, 0x00000002, 0x00000003, 0x00123410, 0xA5123411, 0x00007F12, 0x3C007F13].map (decodeTableWord 32) =
      [some .configure, some .grab, some .release, some (.readMem 0x1234), some (.writeMem 0x1234 0xA5),
        some (.readIo 0x7F), some (.writeIo 0x7F 0x3C)] := by decide
theorem test_decode_probe_and_debug :
    [0x00000020, 0x00000120, 0x00000220, 0x00000130, 0x00000030, 0x00800031, 0x01000032].map (decodeTableWord 32) =
      [some .readRawAddr, some .readRawData, some .readRawCtrl, some (.setWait true), some (.setWait false),
        some (.singleStep 0x8000), some (.controlLine 0 true)] := by decide
theorem test_decode_micro_ops :
    [0x00000580, 0x12ED0581, 0x00000482, 0x00000884, 0x00002085].map (decodeTableWord 32) =
      [some (.readBank 1 .portB), some (.writeBank 1 .portB 0xED 0x12), some (.restoreBank 0 .portB),
        some (.lineAssert 1), some (.lineRelease 4)] := by decide
theorem test_decode_rejects :
    [decodeCommand 0x00000100, decodeCommand 0x00000101, decodeCommand 0x00000320, decodeCommand 0x00000580,
      decodeMicroOp 0x00000583, decodeMicroOp 0x00004580, decodeMicroOp 0x01000884] =
      [.rejected .unassignedOpcode, .rejected .reservedNotZero, .rejected .reservedSelector,
        .rejected .unassignedOpcode, .rejected .unassignedMicroOp, .rejected .microOpFieldNotZero,
        .rejected .microOpFieldNotZero] := by decide

/-- Lines of the programs P1 to P4. -/
theorem test_assembler :
    [Instr.configure, .writeMem 0x4000 0x12, .readRawCtrl, .setWait true, .controlLine 0 true].map assemblerLine =
      [some "CONFIGURE", some "WRITE_MEM 0x4000, 0x12", some "READ_RAW CTRL", some "SET_WAIT 1",
        some "CONTROL_LINE RESET, 1"] := by decide

/-! ## Responses, registry and values: 95_test_vectors.md sections 2.1 and 2.2 -/

theorem test_response_words :
    [okReply false 0 0x5A, okReply false 0x0003 0, okReply true 0 0, errReply false (.transport .chip1 0x12 7),
      errReply false .busNotOwned, errReply false .notConfigured] =
      [0x5A00000000, 0x0000030000, 0x0000000100, 0x0701120004, 0x0000000002, 0x0000000006] := by decide
theorem test_response_bytes : replyBytes 0x0701120004#40 = [0x04, 0x00, 0x12, 0x01, 0x07] := by decide
theorem test_registry :
    lookup params .mreq = some ⟨.mreq, .bits ⟨.chip1, .portB⟩ 0x10⟩ ∧
      lookup params .addrHi = some ⟨.addrHi, .bits ⟨.chip0, .portB⟩ 0xFF⟩ ∧
      [memRdMask params, memWrMask params, ioRdMask params, ioWrMask params] = [0x12, 0x14, 0x0A, 0x0C] ∧
      registryOk params = true ∧ registryOk { params with signalMap := testMap } = false := by decide
theorem test_registry_overlap :
    registryOk { params with
      signalMap := defaultMap.map fun r => if r.name = .wr then ⟨.wr, .bits ⟨.chip1, .portB⟩ 0x02⟩ else r } = false := by
  decide
theorem test_busak : [0xFE, 0xFF, 0x01, 0x00].map (busakActive params) = [true, false, false, true] := by decide
theorem test_control_values :
    [0x00, 0x12, 0x14, 0x0A, 0x0C].map (ctrlValue params) = [0xFF, 0xED, 0xEB, 0xF5, 0xF3] ∧
      [0xFF, 0x12, 0x00].map (dirVal params) = [0x00, 0xED, 0xFF] := by decide
theorem test_decode_ctrl :
    decodeCtrl params 0xA0 =
      [(.busak, false), (.rd, false), (.wr, false), (.ioreq, false), (.mreq, false), (.m1, true), (.ctrlSpare6, false),
        (.ctrlSpare7, true)] ∧
      decodeCtrl { params with signalMap := testMap } 0xA0 = [(.busrq, false), (.mreq, false), (.m1, true)] := by decide

/-! ## Instructions: the vectors of 95_test_vectors.md sections 1 to 3 -/

/-- TV-BD-1. -/
theorem test_configure :
    frames .configure (powered 25) = okFrames
      [[0x40, 0x0A, 0x28], [0x40, 0x0A, 0x28], [0x40, 0x00, 0xFF], [0x40, 0x01, 0xFF], [0x40, 0x02, 0x00],
        [0x40, 0x03, 0x00], [0x40, 0x0C, 0xFF], [0x40, 0x0D, 0xFF], [0x42, 0x0A, 0x28], [0x42, 0x00, 0xFF],
        [0x42, 0x01, 0xFF], [0x42, 0x02, 0x00], [0x42, 0x03, 0x00], [0x42, 0x0C, 0xFF], [0x42, 0x0D, 0xFF]] ∧
      (pins .configure (powered 25)).length = 10 ∧
      cleanConfigured (after (exec .configure (powered 25)) (powered 0)) = true := by decide +kernel
/-- TV-BD-3. -/
theorem test_configure_failure :
    answer .configure (failing 2 0x00 (powered 25)) = some 0x0200000004 ∧
      pins .configure (failing 2 0x00 (powered 25)) = [] := by decide +kernel
/-- TV-AR-1. -/
theorem test_grab :
    frames .grab (clean 4) = okFrames [[0x42, 0x01, 0xFF], [0x43, 0x13, 0xFE]] ∧
      pins .grab (clean 4) = [.gpioW 10 false, .gpioDir 10 .output] ∧
      cleanOwned (after (exec .grab (clean 4)) (clean 4)) = true := by decide +kernel
/-- TV-AR-7. -/
theorem test_grab_failure :
    answer .grab (failing 3 0 (clean 6)) = some 0x0301130004 ∧
      pins .grab (failing 3 0 (clean 6)) = [.gpioW 10 false, .gpioDir 10 .output, .gpioDir 10 .input] := by
  decide +kernel
/-- TV-AR-9. -/
theorem test_release :
    frames .release (owned 5) = okFrames [[0x42, 0x01, 0xFF], [0x42, 0x00, 0xFF], [0x40, 0x01, 0xFF], [0x40, 0x00, 0xFF]] ∧
      pins .release (owned 5) = [.gpioDir 10 .input] := by decide +kernel
/-- TV-AR-11. -/
theorem test_release_failure :
    answer .release (failing 0 0 (owned 5)) = some 0x0001010004 ∧
      (after (exec .release (failing 0 0 (owned 5))) (owned 0)).arb = .released := by decide +kernel
/-- TV-TX-1. -/
theorem test_read_mem :
    frames (.readMem 0x1234) { owned 14 with mem := [(0x1234, 0x5A)] } = okFrames
      [[0x40, 0x14, 0x34], [0x40, 0x00, 0x00], [0x40, 0x15, 0x12], [0x40, 0x01, 0x00], [0x42, 0x15, 0xED],
        [0x42, 0x01, 0xED], [0x42, 0x00, 0xFF], [0x43, 0x12, 0x5A], [0x42, 0x15, 0xFF], [0x42, 0x01, 0xED],
        [0x42, 0x01, 0xFF], [0x42, 0x00, 0xFF], [0x40, 0x01, 0xFF], [0x40, 0x00, 0xFF]] := by decide +kernel
/-- TV-TX-7. -/
theorem test_read_mem_failure :
    answer (.readMem 0x1234) (failing 5 0xED (owned 14)) = some 0x0501010004 ∧
      (frames (.readMem 0x1234) (failing 5 0xED (owned 14))).drop 5 = ([0x42, 0x01, 0xED], false) :: okFrames
        [[0x42, 0x15, 0xFF], [0x42, 0x01, 0xED], [0x42, 0x01, 0xFF], [0x40, 0x01, 0xFF], [0x40, 0x00, 0xFF]] := by
  decide +kernel
/-- TV-TX-2. -/
theorem test_write_mem :
    frames (.writeMem 0x1234 0xA5) (owned 14) = okFrames
      [[0x40, 0x14, 0x34], [0x40, 0x00, 0x00], [0x40, 0x15, 0x12], [0x40, 0x01, 0x00], [0x42, 0x14, 0xA5],
        [0x42, 0x00, 0x00], [0x42, 0x15, 0xEB], [0x42, 0x01, 0xEB], [0x42, 0x15, 0xFF], [0x42, 0x01, 0xEB],
        [0x42, 0x01, 0xFF], [0x42, 0x00, 0xFF], [0x40, 0x01, 0xFF], [0x40, 0x00, 0xFF]] ∧
      (after (exec (.writeMem 0x1234 0xA5) (owned 14)) (owned 0)).mem = [(0x1234, 0xA5)] := by decide +kernel
/-- TV-TX-8. -/
theorem test_write_mem_failure :
    answer (.writeMem 0x1234 0xA5) (failing 4 0 (owned 14)) = some 0x0401140004 ∧
      (frames (.writeMem 0x1234 0xA5) (failing 4 0 (owned 14))).drop 4 = ([0x42, 0x14, 0xA5], false) :: okFrames
        [[0x42, 0x00, 0xFF], [0x40, 0x01, 0xFF], [0x40, 0x00, 0xFF]] := by decide +kernel
/-- TV-TX-4. -/
theorem test_read_io :
    frames (.readIo 0x7F) (owned 11) = okFrames
      [[0x40, 0x14, 0x7F], [0x40, 0x00, 0x00], [0x42, 0x15, 0xF5], [0x42, 0x01, 0xF5], [0x42, 0x00, 0xFF],
        [0x43, 0x12, 0x77], [0x42, 0x15, 0xFF], [0x42, 0x01, 0xF5], [0x42, 0x01, 0xFF], [0x42, 0x00, 0xFF],
        [0x40, 0x00, 0xFF]] := by decide +kernel
/-- TV-TX-5. -/
theorem test_write_io :
    frames (.writeIo 0x7F 0x3C) (owned 11) = okFrames
      [[0x40, 0x14, 0x7F], [0x40, 0x00, 0x00], [0x42, 0x14, 0x3C], [0x42, 0x00, 0x00], [0x42, 0x15, 0xF3],
        [0x42, 0x01, 0xF3], [0x42, 0x15, 0xFF], [0x42, 0x01, 0xF3], [0x42, 0x01, 0xFF], [0x42, 0x00, 0xFF],
        [0x40, 0x00, 0xFF]] ∧
      busCycles (owned 11) (after (exec (.writeIo 0x7F 0x3C) (owned 11)) (owned 0)) = [.ioWrite 0x7F 0x3C] := by
  decide +kernel
/-- TV-TX-11, owned: the pull-ups answer. -/
theorem test_read_raw_addr : answer .readRawAddr (owned 4) = some 0x00FFFF0000 := by decide +kernel
/-- TV-TX-11, the failed fourth transfer. -/
theorem test_read_raw_addr_failure :
    answer .readRawAddr (failing 3 0 (clean 6)) = some 0x0300130004 ∧
      (frames .readRawAddr (failing 3 0 (clean 6))).drop 3 =
        ([0x41, 0x13], false) :: okFrames [[0x40, 0x01, 0xFF], [0x40, 0x00, 0xFF]] := by decide +kernel
/-- P4: a CPU held with `0x3E` on the data lines and MREQ and RD Active. -/
def held : Draw :=
  { calm with banks := { calm.banks with a1 := ⟨0xFF, 0x3E, 0⟩, b1 := ⟨0xFE, 0xED, 0⟩ }, busByte := 0x3E }
theorem test_read_raw_data : answer .readRawData { clean 0 with script := [held, held] } = some 0x3E00000000 := by
  decide +kernel
theorem test_read_raw_ctrl : answer .readRawCtrl { clean 0 with script := [held, held] } = some 0xED00000000 := by
  decide +kernel
/-- TV-DB-1 and TV-DB-2. -/
theorem test_set_wait :
    pins (.setWait true) (clean 2) = [.gpioW 11 false, .gpioDir 11 .output] ∧
      pins (.setWait false) (clean 1) = [.gpioDir 11 .input] := by decide +kernel
/-- TV-DB-7. -/
theorem test_set_wait_unconfigured : answer (.setWait true) (powered 2) = some 0x0000000006 := by decide +kernel
/-- TV-DB-3. -/
theorem test_control_line :
    pins (.controlLine 0 true) (clean 3) = [.gpioW 12 false, .gpioDir 12 .output, .gpioDir 12 .input] ∧
      (after (exec (.controlLine 0 true) (clean 3)) (clean 0)).cpu = ⟨false, true, false⟩ := by decide +kernel
/-- TV-DB-6. -/
theorem test_control_line_unknown : answer (.controlLine 3 false) (powered 3) = some 0x0300000001 := by decide +kernel
/-- TV-SRC-6: 144 transfers and 11 GPIO actions, and the memory as it was. -/
theorem test_single_step :
    (frames (.singleStep 0x8000) { clean 155 with mem := [(0, 0x11), (1, 0x22), (2, 0x33)] }).length = 144 ∧
      (pins (.singleStep 0x8000) { clean 155 with mem := [(0, 0x11), (1, 0x22), (2, 0x33)] }).length = 11 ∧
      (after (exec (.singleStep 0x8000) { clean 155 with mem := [(0, 0x11), (1, 0x22), (2, 0x33)] }) (clean 0)).mem =
        [(0, 0x11), (1, 0x22), (2, 0x33)] := by decide +kernel
/-- TV-DB-9. -/
theorem test_single_step_failed_save :
    answer (.singleStep 0x8000) (failing 25 0 (clean 60)) = some 0x1901120004 ∧
      (after (exec (.singleStep 0x8000) (failing 25 0 (clean 60))) (clean 0)).pending = none := by decide +kernel
/-- TV-BD-5. -/
theorem test_read_bank :
    frames (.readBank 1 .portB) (owned 2) = okFrames [[0x42, 0x01, 0xFF], [0x43, 0x13, 0xFE]] ∧
      (after (exec (.readBank 1 .portB) (owned 2)) (owned 0)).uopResult = some (.value 0xFE) := by decide +kernel
/-- TV-BD-5, the failed first transfer. -/
theorem test_read_bank_failure :
    frames (.readBank 1 .portB) (failing 0 0 (owned 2)) = [([0x42, 0x01, 0xFF], false)] := by decide +kernel
/-- TV-BD-4, `LatchFirst`. -/
theorem test_write_bank :
    frames (.writeBank 0 .portA 0x34 0xFF) (owned 2) = okFrames [[0x40, 0x14, 0x34], [0x40, 0x00, 0x00]] := by
  decide +kernel
/-- TV-BD-4, `DirFirst`. -/
theorem test_write_bank_dir_first :
    frames (.writeBank 0 .portA 0x34 0xFF) { owned 2 with params := { params with writeOrder := .dirFirst } } =
      okFrames [[0x40, 0x00, 0x00], [0x40, 0x14, 0x34]] := by decide +kernel
/-- TV-BD-5. -/
theorem test_restore_bank : frames (.restoreBank 0 .portB) (owned 1) = okFrames [[0x40, 0x01, 0xFF]] := by decide +kernel
/-- TV-BD-6. -/
theorem test_line_assert :
    pins (.lineAssert 1) (clean 2) = [.gpioW 11 false, .gpioDir 11 .output] ∧
      (after (exec (.lineAssert 1) (clean 2)) (clean 0)).lines.wait = ⟨.output, false, true⟩ := by decide +kernel
/-- TV-BD-6. -/
theorem test_line_release : pins (.lineRelease 1) (clean 1) = [.gpioDir 11 .input] := by decide +kernel

/-! ## The machine's own rules -/

/-- R16: distinct pins are taken as they are, and equal choices are not five equal pins. -/
theorem test_pins :
    allLines.map (gpioPin params) = [10, 11, 12, 13, 14] ∧
      (allLines.map (gpioPin { params with gpioPins := ⟨7, 7, 7, 7, 7⟩ })).Nodup := by decide
/-- R35: the banks a `RELEASE` has issued a transfer to when its second transfer does not complete. -/
theorem test_touched :
    ((after (exec .release { owned 0 with script := [calm, { calm with xfer := .hang }] }) (owned 0)).seq.map
      Sequencer.touched) = some [⟨.chip1, .portB⟩, ⟨.chip1, .portA⟩] := by decide +kernel
/-- R52: a floating RESET that is Active at one port action and Inactive at the next. -/
theorem test_floating_reset :
    (after (exec (.setWait true)
        { clean 0 with lines := { (clean 0).lines with reset := ⟨.input, false, false⟩ }
                       script := [{ calm with lineFloat := ⟨true, true, false, true, true⟩ }, calm] }) (clean 0)).cpu =
      ⟨false, true, false⟩ := by decide +kernel
/-- R52: an asserted RESET that a block reset ends. -/
theorem test_block_reset_ends_reset :
    (after (exec (.controlLine 0 false) (clean 40)) (clean 0)).cpu.inReset = true ∧
      (after (exec .configure (blockReset (after (exec (.controlLine 0 false) (clean 40)) (clean 0)))) (clean 0)).cpu =
        ⟨false, true, false⟩ := by decide +kernel
/-- R52: a CPU that fetches at address 0 and grants the bus before the next port action. -/
theorem test_fetch_then_grant :
    (envMove { calm with cpuFetch := true } { owned 0 with cpu := ⟨false, true, false⟩ }).cpu = ⟨true, false, false⟩ ∧
      (envMove calm { owned 0 with cpu := ⟨false, true, false⟩ }).cpu = ⟨true, true, false⟩ ∧
      (envMove { calm with cpuFetch := true } { owned 0 with cpu := ⟨true, true, false⟩ }).cpu = ⟨true, true, false⟩ := by
  decide +kernel
/-- MREQ and RD left driven on the control bank, and a CPU that drives MREQ before the next port action only. -/
def leftDriven : State :=
  { clean 0 with chips := { (clean 0).chips with chip1 := { restChip with bankB := { restBank with iodir := 0xED } } }
                 script := [{ calm with cpuMove := false, between := { calm.between with b1 := ⟨0x10, 0xFF, 0xFF⟩ } }, calm] }
/-- R371: the fault is recorded although the next port action lets the bank go; with a CPU that drives nothing there is none. -/
theorem test_contention_between :
    (newEvents leftDriven (after (exec .readRawCtrl leftDriven) leftDriven)).head? =
        some (.contention ⟨.chip1, .portB⟩ 0x10) ∧
      noNewFault leftDriven (after (exec .readRawCtrl { leftDriven with script := [calm, calm] }) leftDriven) = true := by
  decide +kernel
/-- R45 under `Free`: the byte is fixed for the cycle, and a later cycle of the CPU has a byte of its own. -/
theorem test_free_read_cycle :
    answer .readRawData { clean 0 with params := { params with oracle := .free },
                                       script := [held, { held with busByte := 0x4F }] } = some 0x3E00000000 ∧
      answer .readRawData { clean 0 with params := { params with oracle := .free },
                                         script := [held, { held with busByte := 0x4F, cycleEnds := true }] } =
        some 0x4F00000000 := by decide +kernel
/-- R377: a run that ended is good; one that met a refusal, or that waits on a transfer, is not. -/
theorem test_good_run :
    goodRun [0x00000001, 0x00000130] (powered 30) = true ∧
      goodRun [0x00000001] { powered 30 with params := { params with signalMap := testMap } } = false ∧
      goodRun [0x00000120] { clean 0 with script := [{ calm with xfer := .hang }] } = false := by decide +kernel
/-- R378: the caller has no move before the last response. -/
theorem test_issue :
    issue 0x00000002 (clean 0) = { clean 0 with cmdPort := [0x02, 0x00, 0x00, 0x00] } ∧
      issue 0x00000002 { clean 0 with hung := true } = { clean 0 with hung := true } := by decide

/-! ## Running from reset -/

/-- The first command after reset runs: before `CONFIGURE` a `GRAB` answers `NotConfigured` (TV-AR-12). -/
theorem test_first_step :
    (match step (State.reset.withFetchWord 32 0x00000002) with
      | .next t => t.response
      | _ => none) = some 0x0000000006 := by decide

/-! ## Witnesses: for each statement with hypotheses, states and operands that meet them together -/

/-- A state with bytes on the command port. -/
def withBytes (bs : List Byte) : State := { clean 4 with cmdPort := bs }

/-- A state with a micro-op word for the sequencer. -/
def withUop (w : Word) : State := { clean 4 with uopPort := some w }

/-- A state whose next transfer never completes. -/
def stuck : State := { clean 0 with script := [{ calm with xfer := .hang }] }

/-- Default parameters but for the registry, which is the source's test registry. -/
def testRegistry : State := { clean 4 with params := { params with signalMap := testMap } }

/-- Owned with a CPU that has lost its grant and drives the low address lines. -/
def lostGrant : State :=
  { owned 0 with cpu := ⟨false, false, false⟩
                 script := List.replicate 14
                   { calm with cpuMove := false, banks := { calm.banks with a0 := ⟨0xFF, 0x00, 0⟩ } } }

/-- TV-TX-11: a CPU held with `0x0003` on its address lines. -/
def addressed : Draw := { calm with banks := { calm.banks with a0 := ⟨0xFF, 0x03, 0⟩, b0 := ⟨0xFF, 0x00, 0⟩ } }

/-- A pending snapshot. -/
def saved : Snapshot := ⟨0x11, 0x22, 0x33, 0x8000⟩

/-- The status a step answers. -/
def statusAfterStep (s : State) : Option Byte :=
  match step s with
  | .next t => t.response.map replyStatus
  | _ => none

/-- Whether a step refuses a micro-op word. -/
def refusedStep (s : State) : Bool :=
  match step s with
  | .refused r => r == .microOpNotGenerated
  | _ => false

theorem witness_decoded_word :
    decodeWord 0xFFFFFF11 = .instr (.writeMem 0xFFFF 0xFF) ∧ decodeWord 0xFFFF0681 = .instr (.writeBank 2 .portB 0xFF 0xFF) := by
  decide
theorem witness_operand_assembly :
    [0x00FFFF10, 0xFFFFFF11, 0x0000FF12, 0xFF00FF13, 0x00000020, 0x00000120, 0x00000220, 0x00000130, 0x00FFFF31,
      0x0100FF32].map decodeCommand =
      [.instr (.readMem 0xFFFF), .instr (.writeMem 0xFFFF 0xFF), .instr (.readIo 0xFF), .instr (.writeIo 0xFF 0xFF),
        .instr .readRawAddr, .instr .readRawData, .instr .readRawCtrl, .instr (.setWait true),
        .instr (.singleStep 0xFFFF), .instr (.controlLine 0xFF true)] := by decide
/-- The boundary opcodes of R114. -/
theorem witness_unassigned_opcode :
    [0x00, 0x04, 0x0F, 0x14, 0x1F, 0x21, 0x2F, 0x33, 0xFF].map
      (fun op => statusAfterStep (withBytes (wordBytes (BitVec.ofNat 32 op)))) = List.replicate 9 (some 0x05) := by decide
/-- The lowest reserved bit of each opcode of R112, and the reserved selector. -/
theorem witness_reserved_bit :
    [0x00000101, 0x00000102, 0x00000103, 0x01000010, 0x00010012, 0x00010013, 0x00000420, 0x00000230, 0x01000031,
      0x00010032, 0x02000032, 0x00000320].map (fun w => statusAfterStep (withBytes (wordBytes w))) =
      List.replicate 12 (some 0x05) := by decide
theorem witness_port_ready :
    registryOk (withBytes []).params = true ∧ (withBytes []).hung = false ∧ (withBytes []).uopPort = none ∧
      (withBytes []).seq = none := by decide
/-- One word for each case of R123: another micro-opcode, a reserved bit, an absent chip, an unassigned line, an unused
line field, an unused bank field, an unused byte. -/
theorem witness_micro_op_words :
    [0x00000083, 0x00004080, 0x00000280, 0x00000380, 0x00002884, 0x00000880, 0x00000184, 0x01000082].map
      (fun w => refusedStep (withUop w)) = List.replicate 8 true := by decide
theorem witness_step_runs :
    (withBytes (wordBytes 0x00000130 ++ [0x20])).cmdPort = wordBytes 0x00000130 ++ [0x20] ∧
      decodeCommand 0x00000130 = .instr (.setWait true) ∧ (withUop 0x00000884).uopPort = some 0x00000884 ∧
      decodeMicroOp 0x00000884 = .instr (.lineAssert 1) ∧ (withBytes [0x01, 0x00, 0x00]).cmdPort.length < 4 ∧
      { stuck with hung := true }.hung = true := by decide
theorem witness_step_in_progress : { clean 0 with seq := some (freshSeq .grab) }.seq ≠ none := by decide
/-- Both outcomes of a command: an answer, and a transfer that never completes. -/
theorem witness_command_ends :
    isCommand .readRawData = true ∧ registryOk (clean 2).params = true ∧ registryOk stuck.params = true ∧
      (after (exec .readRawData (clean 2)) (clean 2)).hung = false ∧
      (after (exec .readRawData stuck) stuck).hung = true := by decide +kernel
theorem witness_run : registryOk (clean 0).params = true ∧ ready (clean 0) = true := by decide
theorem witness_rejected_registry :
    isCommand .grab = true ∧ registryOk testRegistry.params = false ∧ defaultWiring params = true := by decide
theorem witness_direction_values :
    params.dirInputBit = true ∧ { params with dirInputBit := false }.dirInputBit = false := by decide
theorem witness_control_value :
    ∀ m ∈ [0x00#8, 0x02, 0x12, 0x1E], registryOk params = true ∧ m &&& ~~~strobeMask params = 0x00 := by decide
theorem witness_default_registry : params.signalMap = defaultMap := by decide
theorem witness_not_configured :
    ∀ i ∈ [Instr.grab, .release, .readMem 0, .writeMem 0 0, .readIo 0, .writeIo 0 0, .readRawAddr, .readRawData,
        .readRawCtrl, .setWait true, .singleStep 0, .controlLine 0 true, .controlLine 2 false],
      needsConfigure i = true ∧ registryOk (powered 0).params = true ∧ (powered 0).configured = false := by decide
theorem witness_precondition :
    ∀ i ∈ [Instr.readMem 0xFFFF, .writeMem 0 0xFF, .readIo 0xFF, .writeIo 0 0], isTransaction i = true ∧
      registryOk (clean 0).params = true ∧ (powered 0).configured = false ∧ (clean 0).configured = true ∧
      (clean 0).arb = .released := by decide
theorem witness_configure : registryOk (powered 25).params = true ∧
    TransfersAnswered (1 + 7 * (chipsOf (powered 25).params.numChips).length) (powered 25) := by decide +kernel
/-- The first transfer of `CONFIGURE` and its last. -/
theorem witness_configure_failure :
    ∀ k ∈ [0, 14], k < 1 + 7 * (chipsOf (powered 25).params.numChips).length ∧
      TransfersAnswered k (failing k 0x55 (powered 25)) ∧ (drawAt (failing k 0x55 (powered 25)) k).xfer = .err 0x55 ∧
      ((configureTrace params)[k]?).isSome = true := by decide +kernel
theorem witness_grab_while_owned :
    registryOk (owned 0).params = true ∧ (owned 0).configured = true ∧ (owned 0).arb = .owned := by decide
theorem witness_grab_polls :
    registryOk (clean 8).params = true ∧ (clean 8).configured = true ∧ (clean 8).arb = .released ∧
      TransfersAnswered (2 + 2 * (clean 8).params.grabPollLimit) (clean 8) := by decide +kernel
/-- Both outcomes of the polls: a grant, and no poll at all. -/
theorem witness_grab_outcomes :
    (after (exec .grab (clean 8)) (clean 8)).arb = .owned ∧
      answer .grab { clean 3 with params := { params with grabPollLimit := 0 } } = some 0x0000000003 := by decide +kernel
theorem witness_grab_clean :
    cleanConfigured (clean 4) = true ∧ defaultWiring (clean 4).params = true ∧ 1 ≤ (clean 4).params.grabPollLimit ∧
      TransfersAnswered 4 (clean 4) ∧ (drawAt (clean 4) 2).cpuMove = true := by decide +kernel
theorem witness_grab_failure :
    (failing 2 0 (clean 6)).configured = true ∧ (failing 2 0 (clean 6)).arb = .released ∧
      exec .grab (failing 2 0 (clean 6)) =
        .next (after (exec .grab (failing 2 0 (clean 6))) (failing 2 0 (clean 6))) ∧
      (after (exec .grab (failing 2 0 (clean 6))) (failing 2 0 (clean 6))).hung = false ∧
      (after (exec .grab (failing 2 0 (clean 6))) (failing 2 0 (clean 6))).response =
        some (errReply false (.transport .chip1 0x01 2)) :=
  ⟨by decide, by decide, next_of_runs (by decide +kernel), by decide +kernel, by decide +kernel⟩
/-- TV-AR-8: the poll's direction write fails, and the restore is one transfer more. -/
theorem witness_grab_restores :
    frames .grab (failing 2 0x0F (clean 6)) = [([0x42, 0x01, 0xFF], false), ([0x42, 0x01, 0xFF], true)] ∧
      atRest (failing 2 0x0F (clean 6)) = true ∧
      ((newEvents (failing 2 0x0F (clean 6)) (after (exec .grab (failing 2 0x0F (clean 6))) (clean 0))).filter
        fun e => (failedTransfer e).isSome).length = 1 := by decide +kernel
theorem witness_release :
    registryOk (owned 12).params = true ∧ (owned 12).configured = true ∧ NothingHangs 4 (failing 3 0 (owned 12)) ∧
      TransfersAnswered 12 (owned 12) ∧ chipsDecode (owned 12) = true := by decide +kernel
theorem witness_release_twice :
    exec .release (owned 12) = .next (after (exec .release (owned 12)) (owned 12)) ∧
      exec .release (after (exec .release (owned 12)) (owned 12)) =
        .next (after (exec .release (after (exec .release (owned 12)) (owned 12))) (owned 12)) := by
  refine ⟨next_of_runs (by decide +kernel), ?_⟩
  have h := next_of_runs (i := .release) (s := after (exec .release (owned 12)) (owned 12)) (by decide +kernel)
  rw [h]; rfl
theorem witness_transactions :
    registryOk (owned 14).params = true ∧ (owned 14).configured = true ∧ (owned 14).arb = .owned ∧
      TransfersAnswered 14 (owned 14) ∧ chipsDecode (owned 14) = true := by decide +kernel
/-- The first and the last failure before the restores, for each length of transaction. -/
theorem witness_one_failure :
    ∀ k ∈ [0, 7, 9], (owned 14).arb = .owned ∧ atRest (failing k 0x0F (owned 14)) = true ∧
      (drawAt (failing k 0x0F (owned 14)) k).xfer = .err 0x0F ∧
      ∀ j < 14, j ≠ k → (drawAt (failing k 0x0F (owned 14)) j).xfer = .ok := by decide +kernel
/-- The same for the probes, without ownership. -/
theorem witness_one_failure_probe :
    ∀ k ∈ [0, 1, 3], (clean 14).configured = true ∧ isTransaction .readRawAddr = false ∧
      atRest (failing k 0x0F (clean 14)) = true ∧ (drawAt (failing k 0x0F (clean 14)) k).xfer = .err 0x0F ∧
      ∀ j < 14, j ≠ k → (drawAt (failing k 0x0F (clean 14)) j).xfer = .ok := by decide +kernel
theorem witness_probes :
    registryOk (clean 4).params = true ∧ (clean 4).configured = true ∧ TransfersAnswered 4 (clean 4) ∧
      chipsDecode (clean 4) = true := by decide +kernel
/-- Lines with no driver, and a CPU that drives all its address lines. -/
theorem witness_probe_levels :
    TransfersAnswered 4 (owned 4) ∧ cleanOwned (owned 4) = true ∧ defaultWiring (owned 4).params = true ∧
      cleanConfigured { clean 0 with script := List.replicate 4 addressed } = true ∧
      (drawAt { clean 0 with script := List.replicate 4 addressed } 1).banks.a0.drive = 0xFF ∧
      (drawAt { clean 0 with script := List.replicate 4 addressed } 3).banks.b0.drive = 0xFF ∧
      answer .readRawAddr { clean 0 with script := List.replicate 4 addressed } = some 0x0000030000 := by decide +kernel
theorem witness_set_wait : registryOk (clean 2).params = true ∧ (clean 2).configured = true := by decide
/-- The codes on both sides of the boundary. -/
theorem witness_control_line :
    3 ≤ (3#8).toNat ∧ 3 ≤ (0xFF#8).toNat ∧ [Line.reset, .int, .nmi][(0#8).toNat]? = some .reset ∧
      [Line.reset, .int, .nmi][(2#8).toNat]? = some .nmi ∧ (clean 3).configured = true := by decide
theorem witness_reset_pulse :
    registryOk (owned 3).params = true ∧ (owned 3).configured = true ∧ activeLevel (owned 3).params .reset = false ∧
      (owned 3).lines.reset.pullUp = true := by decide
theorem witness_in_reset :
    registryOk { clean 2 with cpu := ⟨false, false, true⟩ }.params = true ∧
      { clean 2 with cpu := ⟨false, false, true⟩ }.configured = true ∧ activeLevel (clean 2).params .reset = false ∧
      (clean 2).lines.reset = ⟨.input, false, true⟩ ∧
      ∀ k < 2, (drawAt { clean 2 with cpu := ⟨false, false, true⟩ } k).cpuFetch = false := by decide
theorem witness_single_step :
    cleanConfigured (clean 156) = true ∧ defaultWiring (clean 156).params = true ∧
      (clean 156).params.oracle = .simMem ∧ 1 ≤ (clean 156).params.grabPollLimit ∧
      ∀ i < 156, (drawAt (clean 156) i).xfer = .ok ∧ (drawAt (clean 156) i).cpuMove = true := by decide +kernel
theorem witness_quiet : quietDraw params { calm with banks := { calm.banks with b1 := ⟨0x00, 0xFF, 0xFF⟩ } } := by
  unfold quietDraw; decide
theorem witness_quiet_draws : ∀ i < 156, quietDraw params (drawAt (clean 156) i) := by unfold quietDraw; decide +kernel
theorem witness_retry :
    cleanConfigured { clean 156 with pending := none } = true ∧
      { clean 156 with pending := some saved }.pending = some saved := by decide +kernel
/-- The outcomes of a pending snapshot: kept with a new target when the jump cannot be written, and dropped after the
restore. -/
theorem witness_saved_bytes :
    exec (.singleStep 0x9000) (failing 4 0 { clean 60 with pending := some saved }) =
        .next (after (exec (.singleStep 0x9000) (failing 4 0 { clean 60 with pending := some saved })) (clean 0)) ∧
      (after (exec (.singleStep 0x9000) (failing 4 0 { clean 60 with pending := some saved })) (clean 0)).pending =
        some { saved with jumpTarget := 0x9000 } ∧
      (after (exec (.singleStep 0x9000) { clean 156 with pending := some saved }) (clean 0)).pending = none := by
  refine ⟨?_, by decide +kernel, by decide +kernel⟩
  have h := next_of_runs (i := .singleStep 0x9000) (s := failing 4 0 { clean 60 with pending := some saved })
    (by decide +kernel)
  rw [h]; rfl
theorem witness_snapshot :
    (clean 156).pending = none ∧
      exec (.singleStep 0x8000) (clean 156) = .next (after (exec (.singleStep 0x8000) (clean 156)) (clean 156)) :=
  ⟨by decide, next_of_runs (by decide +kernel)⟩
/-- The snapshot kept when the transfer after the three reads fails, and the bytes put back when none does. -/
theorem witness_snapshot_kept :
    (owned 42).configured = true ∧ (owned 42).arb = .owned ∧ (owned 42).pending = none ∧
      TransfersAnswered 42 (failing 42 0 (owned 60)) ∧
      (after (exec (.singleStep 0x8000) (failing 42 0 (owned 60))) (clean 0)).pending =
        some ⟨0x77, 0x77, 0x77, 0x8000⟩ ∧
      (after (exec (.singleStep 0x8000) (owned 156)) (owned 0)).pending = none := by decide +kernel
/-- A `grab` inside the command that polls for the bus, and the reads after it. -/
theorem witness_snapshot_after_grab :
    (grabOp (setSeq (some (freshSeq (.singleStep 0x8000))) (clean 60))).1 = .ok () ∧
      TransfersAnswered 42 (grabOp (setSeq (some (freshSeq (.singleStep 0x8000))) (clean 60))).2 := by decide +kernel
/-- R287: an error while the bus is owned. -/
theorem witness_single_step_error :
    (after (exec (.singleStep 0x8000) (failing 50 0 (clean 100))) (clean 0)).hung = false ∧
      ((after (exec (.singleStep 0x8000) (failing 50 0 (clean 100))) (clean 0)).response.map replyStatus) = some 0x04 := by
  decide +kernel
theorem witness_micro_ops :
    registryOk (clean 2).params = true ∧ chipOfCode 1#2 = some .chip1 ∧
      chipPresent (clean 2).params.numChips .chip1 = true ∧ TransfersAnswered 2 (clean 2) ∧
      (drawAt (failing 0 0x5A (clean 2)) 0).xfer = .err 0x5A ∧ (failing 0 0x5A (clean 2)).seq = none := by decide +kernel
theorem witness_lines :
    registryOk (clean 2).params = true ∧ lineOfCode 0#3 = some .busrq ∧ lineOfCode 4#3 = some .nmi ∧
      activeLevel (clean 2).params (lineSignal .nmi) = false ∧
      activeLevel { params with activeHigh := [.nmi] } (lineSignal .nmi) = true ∧
      registryOk { params with activeHigh := [.nmi] } = true := by decide
theorem witness_owned :
    cleanOwned (owned 28) = true ∧ defaultWiring (owned 28).params = true ∧ (owned 28).params.oracle = .simMem ∧
      TransfersAnswered 28 (owned 28) := by decide +kernel
theorem witness_quiet_command :
    defaultWiring (clean 60).params = true ∧ ctrlUndriven (clean 60) ∧
      (∀ k < 40 + 2 * (clean 60).params.grabPollLimit,
        (drawAt (clean 60) k).xfer = .ok ∧ quietDraw (clean 60).params (drawAt (clean 60) k)) ∧
      exec .configure (clean 60) = .next (after (exec .configure (clean 60)) (clean 60)) :=
  ⟨by decide, by unfold ctrlUndriven; decide, by unfold quietDraw; decide +kernel, next_of_runs (by decide +kernel)⟩
theorem witness_frames :
    exec (.writeMem 0x1234 0xA5) (owned 14) = .next (after (exec (.writeMem 0x1234 0xA5) (owned 14)) (owned 14)) ∧
      exec (.lineAssert 0) (clean 2) = .next (after (exec (.lineAssert 0) (clean 2)) (clean 2)) :=
  ⟨next_of_runs (by decide +kernel), next_of_runs (by decide +kernel)⟩
/-- A step from a state that meets the invariants. -/
theorem witness_invariants :
    (∃ t, step { owned 5 with cmdPort := wordBytes 0x00000003 } = .next t) ∧
      { owned 5 with cmdPort := wordBytes 0x00000003 }.uopPort = none ∧ Memory.wf (owned 5).mem ∧
      ownershipHolds (owned 5) ∧ atRest (owned 5) = true :=
  ⟨⟨_, rfl⟩, by decide, by decide, by unfold ownershipHolds; decide, by decide +kernel⟩
theorem witness_rest_after_configure :
    (after (exec .configure (powered 25)) (powered 25)).configured = true ∧
      noNewFailure (powered 25) (after (exec .configure (powered 25)) (powered 25)) = true ∧
      (after (exec .configure (powered 25)) (powered 25)).hung = false := by decide +kernel
theorem witness_left_driven :
    leftDriven.configured = true ∧ defaultWiring leftDriven.params = true ∧ leftDriven.cpu.granted = false ∧
      (drawAt leftDriven 0).cpuMove = false ∧
      blockDrive leftDriven ⟨.chip1, .portB⟩ &&& 0x1E &&& (drawAt leftDriven 0).between.b1.drive ≠ 0x00 := by
  decide +kernel
theorem witness_lost_grant :
    (∀ i ∈ [Instr.readMem 0, .writeMem 0xFFFF 0xFF, .readIo 0xFF, .writeIo 0 0], isTransaction i = true) ∧
      lostGrant.configured = true ∧ lostGrant.arb = .owned ∧ chipsClean lostGrant = true ∧
      defaultWiring lostGrant.params = true ∧ lostGrant.cpu.granted = false ∧ TransfersAnswered 14 lostGrant ∧
      ∀ k < 14, (drawAt lostGrant k).cpuMove = false ∧ (drawAt lostGrant k).banks.a0.drive = 0xFF := by decide +kernel
/-- A command with a failed transfer, and one with none. -/
theorem witness_first_failure :
    firstFailure 0 (portActions (failing 5 0 (owned 14))
        (after (exec (.readMem 0) (failing 5 0 (owned 14))) (owned 14))) = some (.transport .chip1 0x01 5) ∧
      firstFailure 0 (portActions (owned 14) (after (exec (.readMem 0) (owned 14)) (owned 14))) = none := by
  decide +kernel

end Sys2Proof.Tests
end

/-! # The ownership invariant (R50)

Between commands, `Owned` implies that BUSRQ is asserted. Three operations act on the two sides of that implication:
`configure` and `release` make the arbiter `Released` before they touch BUSRQ, and `grab` makes it `Owned` only after BUSRQ
has been asserted and the polls have left the pin alone. Every other operation keeps the parameters, the arbiter and the
BUSRQ pin. -/

namespace Sys2Proof.Machine

/-! ## Weaker frames -/

/-- What a transfer frame entails is a transfer frame, if it is a preorder. -/
theorem TransferFrame.mono {Q R : State → State → Prop} (h : TransferFrame Q) (hR : Rel R)
    (hQR : ∀ {s t}, Q s t → R s t) : TransferFrame R where
  toRel := hR
  seq f s := hQR (h.seq f s)
  event e s := hQR (h.event e s)
  write c r v s := hQR (h.write c r v s)
  read id s := hQR (h.read id s)

/-- What a pin frame of a line entails is a pin frame of that line, if it is a preorder. -/
theorem PinFrame.mono {Q R : State → State → Prop} {l : Line} (h : PinFrame Q l) (hR : Rel R)
    (hQR : ∀ {s t}, Q s t → R s t) : PinFrame R l where
  toRel := hR
  level v s := hQR (h.level v s)
  dir v s := hQR (h.dir v s)
  pullUp v s := hQR (h.pullUp v s)

/-! ## What transfers and pin actions leave alone -/

/-- The parameters, the arbiter and the micro-op port are as before. -/
structure SameControl (s t : State) : Prop where
  params : t.params = s.params
  arb : t.arb = s.arb
  uopPort : t.uopPort = s.uopPort

theorem sameControl_rel : Rel SameControl where
  refl _ := ⟨rfl, rfl, rfl⟩
  trans h k := ⟨k.params.trans h.params, k.arb.trans h.arb, k.uopPort.trans h.uopPort⟩

theorem sameControl_pinFrame (l : Line) : PinFrame SameControl l where
  toRel := sameControl_rel
  level v s := by constructor <;> simp [gpioWrite]
  dir v s := by constructor <;> simp [gpioDir]
  pullUp v s := by constructor <;> simp [gpioPullUp]

/-- Everything the ownership invariant speaks of is as before. -/
structure SameOwner (s t : State) : Prop extends SameControl s t where
  busrq : t.lines.busrq = s.lines.busrq

theorem sameOwner_rel : Rel SameOwner where
  refl s := ⟨sameControl_rel.refl s, rfl⟩
  trans h k := ⟨sameControl_rel.trans h.toSameControl k.toSameControl, k.busrq.trans h.busrq⟩

theorem xferW_sameOwner (c : ChipId) (r : Reg) (v : Byte) : Stays SameOwner (xferW c r v) := by
  intro s
  rcases xferW_cases c r v s with ⟨-, h⟩ | ⟨x, -, h⟩ | ⟨-, h⟩ <;> rw [h]
  all_goals exact ⟨⟨by simp, by simp, by simp⟩, by simp⟩

theorem xferR_sameOwner (id : BankId) : Stays SameOwner (xferR id) := by
  intro s
  rcases xferR_cases id s with ⟨-, h⟩ | ⟨x, -, h⟩ | ⟨-, h⟩ <;> rw [h]
  all_goals exact ⟨⟨by simp, by simp, by simp⟩, by simp⟩

theorem sameOwner_transferFrame : TransferFrame SameOwner where
  toRel := sameOwner_rel
  seq _ _ := ⟨⟨rfl, rfl, rfl⟩, rfl⟩
  event _ _ := ⟨⟨rfl, rfl, rfl⟩, rfl⟩
  write := xferW_sameOwner
  read := xferR_sameOwner

theorem withLine_busrq {α : Type} (x : PerLine α) {l : Line} (v : α) (hl : l ≠ .busrq) :
    (withLine x l v).busrq = x.busrq := by
  cases l with
  | busrq => exact absurd rfl hl
  | wait => rfl
  | reset => rfl
  | int => rfl
  | nmi => rfl

theorem sameOwner_pinFrame {l : Line} (hl : l ≠ .busrq) : PinFrame SameOwner l where
  toRel := sameOwner_rel
  level v s := ⟨(sameControl_pinFrame l).level v s, by rw [(gpioWrite_ran l v s).2.2, withLine_busrq _ _ hl]⟩
  dir v s := ⟨(sameControl_pinFrame l).dir v s, by rw [(gpioDir_ran l v s).2.2, withLine_busrq _ _ hl]⟩
  pullUp v s := ⟨(sameControl_pinFrame l).pullUp v s, by rw [(gpioPullUp_ran l v s).2.2, withLine_busrq _ _ hl]⟩

theorem sameControl_transferFrame : TransferFrame SameControl :=
  sameOwner_transferFrame.mono sameControl_rel SameOwner.toSameControl

/-! ## The micro-op port -/

/-- The micro-op port is as before. -/
def SameUopPort (s t : State) : Prop := t.uopPort = s.uopPort

theorem sameUopPort_rel : Rel SameUopPort where
  refl _ := rfl
  trans h k := Eq.trans k h

/-- No instruction gives the sequencer a micro-op word: only an environment's placing does (R122, log 9). -/
theorem sameUopPort_commandFrame : CommandFrame SameUopPort where
  toTransferFrame := sameControl_transferFrame.mono sameUopPort_rel SameControl.uopPort
  pins l := (sameControl_pinFrame l).mono sameUopPort_rel SameControl.uopPort
  arb _ _ := rfl
  configured _ _ := rfl
  pending _ _ := rfl
  sequencer _ _ := rfl
  respond _ _ := rfl
  uopResult _ _ := rfl

/-! ## The arbiter stays `Released` -/

/-- An arbiter that was `Released` still is. -/
def StaysReleased (s t : State) : Prop := s.arb = .released → t.arb = .released

theorem staysReleased_rel : Rel StaysReleased where
  refl _ h := h
  trans h k hs := k (h hs)

theorem SameControl.staysReleased {s t : State} (h : SameControl s t) : StaysReleased s t := fun hs => h.arb.trans hs

theorem staysReleased_transferFrame : TransferFrame StaysReleased :=
  sameControl_transferFrame.mono staysReleased_rel SameControl.staysReleased

theorem staysReleased_pinFrame (l : Line) : PinFrame StaysReleased l :=
  (sameControl_pinFrame l).mono staysReleased_rel SameControl.staysReleased

/-- `release` ends `Released` whatever failed (R206): it begins by making the arbiter so. -/
theorem releaseOp_arb (s : State) : (releaseOp s).2.arb = .released :=
  stays_releaseOp staysReleased_transferFrame (staysReleased_pinFrame _) (fun _ _ => rfl) (setArb .released s) rfl

/-- `configure` ends `Released` whatever failed (R167): it begins by making the arbiter so. -/
theorem configureOp_arb (s : State) : (configureOp s).2.arb = .released :=
  stays_configureOp staysReleased_transferFrame staysReleased_pinFrame (fun _ _ => rfl) (fun _ _ h => h)
    (setArb .released s) rfl

/-! ## Operations that keep the ownership invariant -/

/-- The ownership invariant, where it held, still holds. -/
def KeepsOwnership (s t : State) : Prop := ownershipHolds s → ownershipHolds t

theorem keepsOwnership_rel : Rel KeepsOwnership where
  refl _ h := h
  trans h k hs := k (h hs)

theorem ownershipHolds_of_released {s : State} (h : s.arb = .released) : ownershipHolds s := fun ho => by
  rw [h] at ho; cases ho

theorem SameOwner.lineAsserted_busrq {s t : State} (h : SameOwner s t) : lineAsserted t .busrq = lineAsserted s .busrq := by
  simp only [lineAsserted, ofLine, h.params, h.busrq]

theorem SameOwner.keepsOwnership {s t : State} (h : SameOwner s t) : KeepsOwnership s t := fun hs ho =>
  h.lineAsserted_busrq.trans (hs (h.arb.symm.trans ho))

theorem keepsOwnership_transferFrame : TransferFrame KeepsOwnership :=
  sameOwner_transferFrame.mono keepsOwnership_rel SameOwner.keepsOwnership

theorem keepsOwnership_pinFrame {l : Line} (hl : l ≠ .busrq) : PinFrame KeepsOwnership l :=
  (sameOwner_pinFrame hl).mono keepsOwnership_rel SameOwner.keepsOwnership

theorem keepsOwnership_releaseOp : Stays KeepsOwnership releaseOp := fun s _ =>
  ownershipHolds_of_released (releaseOp_arb s)

theorem keepsOwnership_configureOp : Stays KeepsOwnership configureOp := fun s _ =>
  ownershipHolds_of_released (configureOp_arb s)

/-- `lineAssert` leaves its line asserted (R34, R171). -/
theorem lineAsserted_lineAssert (l : Line) (s : State) : lineAsserted (lineAssert l s) l = true := by
  obtain ⟨hran, -, hlines⟩ := lineAssert_ran l s
  simp only [lineAsserted, hlines, hran.params, assertedPin]
  cases l <;> simp [withLine, ofLine]

/-- `grab` keeps the invariant (R201 to R205): a failed one leaves the arbiter `Released`, and a successful one makes it
`Owned` with BUSRQ as `lineAssert` left it. -/
theorem keepsOwnership_grabOp : Stays KeepsOwnership grabOp := by
  intro s hs
  cases ha : s.arb with
  | owned =>
    simp only [grabOp, ha]
    exact keepsOwnership_transferFrame.event _ _ (keepsOwnership_transferFrame.seq _ s hs)
  | released =>
    simp only [grabOp, ha]
    have hpolls := stays_grabPolls sameOwner_transferFrame s.params.grabPollLimit (lineAssert .busrq s)
    generalize grabPolls s.params.grabPollLimit (lineAssert .busrq s) = out at hpolls ⊢
    obtain ⟨r, s1⟩ := out
    have hreleased : s1.arb = .released :=
      hpolls.staysReleased (stays_lineAssert (staysReleased_pinFrame .busrq) s ha)
    have hpin : ∀ m, StaysReleased m (lineRelease .busrq m) := stays_lineRelease (staysReleased_pinFrame .busrq)
    match r with
    | .ok true => exact fun _ => hpolls.lineAsserted_busrq.trans (lineAsserted_lineAssert .busrq s)
    | .ok false => exact ownershipHolds_of_released (staysReleased_transferFrame.seq _ _ (hpin s1 hreleased))
    | .failed e =>
      have hrestore := stays_restoreBank staysReleased_transferFrame (bankOf s1.params .ctrl) s1 hreleased
      dsimp only
      split
      · rename_i hr; rw [hr] at hrestore; exact ownershipHolds_of_released hrestore
      · rename_i hr; rw [hr] at hrestore; exact ownershipHolds_of_released (hpin _ hrestore)
    | .hung => exact ownershipHolds_of_released hreleased

theorem keepsOwnership_setPending (v : Option Snapshot) (s : State) : KeepsOwnership s (setPending v s) := fun hs => hs

/-- `singleStep` keeps the invariant: its grabs and releases do, and it acts on RESET and WAIT besides (R282 to R289). -/
theorem keepsOwnership_singleStepOp (target : Addr) : Stays KeepsOwnership (singleStepOp target) := by
  have hR := keepsOwnership_rel
  have hT := keepsOwnership_transferFrame
  have hgrab := keepsOwnership_grabOp
  have hrelease := keepsOwnership_releaseOp
  have hwrite : Stays KeepsOwnership (andThen (takeSnapshot target) fun _ => writeBytes (jumpBytes target)) :=
    stays_andThen hR (stays_takeSnapshot hT target keepsOwnership_setPending) fun _ => stays_writeBytes hT _
  have hrun := stays_runAndSample hT (keepsOwnership_pinFrame (l := .reset) (by decide))
    (keepsOwnership_pinFrame (l := .wait) (by decide))
  have hrestore := stays_restoreBytes hT keepsOwnership_setPending
  refine stays_andThen hR hgrab fun _ => ?_
  refine stays_andThen hR (stays_onError hR hwrite hrelease) fun _ => ?_
  refine stays_andThen hR hrelease fun _ => ?_
  refine stays_andThen hR hrun fun _ => ?_
  refine stays_andThen hR hgrab fun _ => ?_
  refine stays_andThen hR (stays_onError hR hrestore hrelease) fun _ => ?_
  exact stays_andThen hR hrelease fun _ => hR.refl

theorem keepsOwnership_setWaitOp (active : Bool) : Stays KeepsOwnership (setWaitOp active) := by
  have hwait := keepsOwnership_pinFrame (l := .wait) (by decide)
  intro s
  cases active with
  | true => exact stays_lineAssert hwait s
  | false => exact stays_lineRelease hwait s

/-- No `CONTROL_LINE` code is BUSRQ's (R117). -/
theorem controlLineOf_ne_busrq {signal : Byte} {l : Line} (h : controlLineOf signal = some l) : l ≠ .busrq := by
  rintro rfl
  unfold controlLineOf at h
  split_ifs at h <;> cases h

/-! ## Commands -/

/-- A command keeps the invariant when its body does: taking it and answering it change neither arbiter nor pins. -/
theorem command_keepsOwnership {i : Instr} {body : Op (BitVec 16 × Byte)} {s t : State}
    (hb : Stays KeepsOwnership body) (h : command i body s = .next t) : KeepsOwnership s t :=
  command_stays keepsOwnership_rel (fun _ _ hs => hs) (fun _ _ hs => hs) hb h

/-- Every command keeps the ownership invariant, whatever fails (R50). -/
theorem exec_keepsOwnership {i : Instr} {s t : State} (hi : isCommand i = true) (h : exec i s = .next t) :
    KeepsOwnership s t := by
  have hR := keepsOwnership_rel
  have hT := keepsOwnership_transferFrame
  have pre : ∀ {α : Type} {b : Bool} {o : Op α}, Stays KeepsOwnership o → Stays KeepsOwnership (precheck b o) :=
    fun ho => stays_precheck hT.seq ho
  cases i with
  | configure => exact command_keepsOwnership (stays_noData hR keepsOwnership_configureOp) h
  | grab => exact command_keepsOwnership (pre (stays_noData hR keepsOwnership_grabOp)) h
  | release => exact command_keepsOwnership (pre (stays_noData hR keepsOwnership_releaseOp)) h
  | readMem a => exact command_keepsOwnership (pre (stays_inD8 hR (stays_readMemoryOp hT a))) h
  | writeMem a v => exact command_keepsOwnership (pre (stays_noData hR (stays_writeMemoryOp hT a v))) h
  | readIo port => exact command_keepsOwnership (pre (stays_inD8 hR (stays_readIoOp hT port))) h
  | writeIo port v => exact command_keepsOwnership (pre (stays_noData hR (stays_writeIoOp hT port v))) h
  | readRawAddr => exact command_keepsOwnership (pre (stays_inD16 hR (stays_readRawAddrOp hT))) h
  | readRawData => exact command_keepsOwnership (pre (stays_inD8 hR (stays_readRawBankOp hT _))) h
  | readRawCtrl => exact command_keepsOwnership (pre (stays_inD8 hR (stays_readRawBankOp hT _))) h
  | setWait active => exact command_keepsOwnership (pre (stays_noData hR (keepsOwnership_setWaitOp active))) h
  | singleStep target => exact command_keepsOwnership (pre (keepsOwnership_singleStepOp target)) h
  | controlLine signal pulse =>
    refine command_keepsOwnership ?_ h
    split
    · rename_i hl
      have hpin := keepsOwnership_pinFrame (controlLineOf_ne_busrq hl)
      exact pre (stays_noData hR fun m => stays_pulseLine hpin pulse m)
    · exact fun m => hT.seq _ m
  | readBank => cases hi
  | writeBank => cases hi
  | restoreBank => cases hi
  | lineAssert => cases hi
  | lineRelease => cases hi

/-! ## Steps of the command port -/

/-- A decoded word is a command or rejected. -/
def AnswersCommand : Decoded → Prop
  | .instr i => isCommand i = true
  | .rejected _ => True

theorem answersCommand_ite {c : Prop} [Decidable c] {d e : Decoded} (hd : AnswersCommand d) (he : AnswersCommand e) :
    AnswersCommand (if c then d else e) := by
  split
  · exact hd
  · exact he

theorem answersCommand_whenZero {zero : Bool} {r : Reject} {i : Instr} (hi : isCommand i = true) :
    AnswersCommand (whenZero zero r i) := answersCommand_ite hi trivial

/-- The command decoder answers no micro-op: opcode by opcode, in the order of R112 (R114). -/
theorem answersCommand_decodeCommand (w : Word) : AnswersCommand (decodeCommand w) :=
  answersCommand_ite (answersCommand_whenZero rfl) <|
  answersCommand_ite (answersCommand_whenZero rfl) <|
  answersCommand_ite (answersCommand_whenZero rfl) <|
  answersCommand_ite (answersCommand_whenZero rfl) <|
  answersCommand_ite rfl <|
  answersCommand_ite (answersCommand_whenZero rfl) <|
  answersCommand_ite (answersCommand_whenZero rfl) <|
  answersCommand_ite (answersCommand_ite (answersCommand_ite rfl <| answersCommand_ite rfl <| answersCommand_ite rfl
    trivial) trivial) <|
  answersCommand_ite (answersCommand_whenZero rfl) <|
  answersCommand_ite (answersCommand_whenZero rfl) <|
  answersCommand_ite (answersCommand_whenZero rfl) trivial

theorem isCommand_of_decodeCommand {w : Word} {i : Instr} (h : decodeCommand w = .instr i) : isCommand i = true := by
  simpa only [h, AnswersCommand] using answersCommand_decodeCommand w

/-- Taking a command word off its port changes nothing else (R110). -/
theorem fetchCommand_state {s s1 : State} {w : Word} (h : fetchCommand s = some (w, s1)) :
    s1 = { s with cmdPort := s1.cmdPort } := by
  unfold fetchCommand at h
  split at h
  · cases h; rfl
  · cases h

theorem rejectCommand_next {w : Word} {s t : State} (h : rejectCommand w s = .next t) :
    t = respond (errReply false (.illegalCommand (opField w))) s := by
  unfold rejectCommand at h
  split at h
  · cases h; rfl
  · cases h

/-- Everything a step with no micro-op waiting can do: nothing, or a command, or the response to an illegal word (R110). -/
theorem step_commandPort_cases {s t : State} (hu : s.uopPort = none) (h : step s = .next t) :
    t = s ∨
    (∃ i c, isCommand i = true ∧ exec i { s with cmdPort := c } = .next t) ∨
    (∃ w c, t = respond (errReply false (.illegalCommand (opField w))) { s with cmdPort := c }) := by
  unfold step at h
  split at h
  · cases h
  · rw [hu] at h
    dsimp only at h
    split at h
    · rename_i w s1 hf
      rw [fetchCommand_state hf] at h
      split at h
      · rename_i i hd
        exact .inr (.inl ⟨i, s1.cmdPort, isCommand_of_decodeCommand hd, h⟩)
      · exact .inr (.inr ⟨w, s1.cmdPort, rejectCommand_next h⟩)
    · cases h; exact .inl rfl

/-- Settles O56: each command keeps the invariant, and nothing else a step of the command port does reaches the arbiter, the
pins or the micro-op port. -/
theorem stepKeepsOwnershipInvariant : Obligations.StepKeepsOwnershipInvariant := by
  intro s t hu hs h
  rcases step_commandPort_cases hu h with rfl | ⟨i, c, hi, he⟩ | ⟨w, c, rfl⟩
  · exact ⟨hu, hs⟩
  · exact ⟨(exec_stays sameUopPort_commandFrame he).trans hu, exec_keepsOwnership hi he hs⟩
  · exact ⟨hu, hs⟩

end Sys2Proof.Machine

/-! # The command word (R110 to R117)

A field of a word is zero exactly when the word has no bit on the field's mask. With that, each opcode of R112 has one
equation: the decoder answers the opcode's command when the word avoids the opcode's reserved bits, and rejects it
otherwise. The operands (R115) and the illegal words (R113, R114, R116) are read off these equations. -/

namespace Sys2Proof

/-! ## Fields of a word and the bits they occupy -/

/-- The word whose bits from `lo` on, `len` of them, are set: where a field stands (R111). -/
def fieldMask (lo len : Nat) : Word := (BitVec.allOnes len).setWidth 32 <<< lo

theorem getLsbD_fieldMask {lo len i : Nat} (hi : i < 32) :
    (fieldMask lo len).getLsbD i = (decide (lo ≤ i) && decide (i < lo + len)) := by
  simp only [fieldMask, BitVec.getLsbD_shiftLeft, BitVec.getLsbD_setWidth, BitVec.getLsbD_allOnes]
  grind

theorem extractLsb'_eq_zero_iff (w : Word) (lo len : Nat) :
    w.extractLsb' lo len = 0#len ↔ w &&& fieldMask lo len = 0#32 := by
  simp only [BitVec.eq_of_getLsbD_eq_iff, BitVec.getLsbD_extractLsb', BitVec.getLsbD_and, BitVec.getLsbD_zero]
  constructor
  · intro h i hi
    have hfield := h (i - lo)
    rw [getLsbD_fieldMask hi]
    grind
  · intro h j hj
    by_cases hlt : lo + j < 32
    · have hbit := h (lo + j) hlt
      rw [getLsbD_fieldMask hlt] at hbit
      simpa [hj] using hbit
    · simp [BitVec.getLsbD_of_ge w (lo + j) (by omega)]

theorem extractLsb'_beq_zero (w : Word) (lo len : Nat) :
    (w.extractLsb' lo len == 0#len) = (w &&& fieldMask lo len == 0#32) := by
  rw [Bool.eq_iff_iff, beq_iff_eq, beq_iff_eq, extractLsb'_eq_zero_iff]

theorem and_beq_zero_and (w m m' : Word) : (w &&& m == 0#32 && w &&& m' == 0#32) = (w &&& (m ||| m') == 0#32) := by
  rw [Bool.eq_iff_iff, Bool.and_eq_true, beq_iff_eq, beq_iff_eq, beq_iff_eq, BitVec.and_or_distrib_left,
    BitVec.or_eq_zero_iff]

theorem extractLsb'_one_beq {n : Nat} (w : BitVec n) (k : Nat) : (w.extractLsb' k 1 == 1#1) = w.getLsbD k := by
  rw [Bool.eq_iff_iff, beq_iff_eq, BitVec.eq_of_getLsbD_eq_iff]
  simp

theorem opField_toNat (w : Word) : (opField w).toNat = w.toNat % 256 := by
  simp [opField, BitVec.extractLsb'_toNat]

theorem opField_of_toNat {w : Word} {op : Byte} (h : w.toNat % 256 = op.toNat) : opField w = op :=
  BitVec.eq_of_toNat_eq ((opField_toNat w).trans h)

theorem wordOfBytes_wordBytes (w : Word) :
    wordOfBytes (w.extractLsb' 0 8) (w.extractLsb' 8 8) (w.extractLsb' 16 8) (w.extractLsb' 24 8) = w := by
  ext k hk
  simp only [wordOfBytes, BitVec.getLsbD_append, BitVec.getLsbD_extractLsb', ← BitVec.getLsbD_eq_getElem]
  grind

/-! ## The command decoder, opcode by opcode (R112) -/

theorem whenZero_eq_instr {zero : Bool} {r : Reject} {i j : Instr} :
    whenZero zero r i = .instr j ↔ zero = true ∧ i = j := by
  cases zero <;> simp [whenZero]

/-- The opcodes R112 lists. -/
def commandOpcodes : List Byte :=
  [0x01#8, 0x02#8, 0x03#8, 0x10#8, 0x11#8, 0x12#8, 0x13#8, 0x20#8, 0x30#8, 0x31#8, 0x32#8]

section Decoder
variable {w : Word}

theorem decodeCommand_configure (h : opField w = 0x01#8) :
    decodeCommand w = whenZero (w &&& 0xFFFFFF00#32 == 0#32) .reservedNotZero .configure := by
  simp only [decodeCommand, h, fieldA, fieldB, extractLsb'_beq_zero, and_beq_zero_and]; rfl

theorem decodeCommand_grab (h : opField w = 0x02#8) :
    decodeCommand w = whenZero (w &&& 0xFFFFFF00#32 == 0#32) .reservedNotZero .grab := by
  simp only [decodeCommand, h, fieldA, fieldB, extractLsb'_beq_zero, and_beq_zero_and]; rfl

theorem decodeCommand_release (h : opField w = 0x03#8) :
    decodeCommand w = whenZero (w &&& 0xFFFFFF00#32 == 0#32) .reservedNotZero .release := by
  simp only [decodeCommand, h, fieldA, fieldB, extractLsb'_beq_zero, and_beq_zero_and]; rfl

theorem decodeCommand_readMem (h : opField w = 0x10#8) :
    decodeCommand w = whenZero (w &&& 0xFF000000#32 == 0#32) .reservedNotZero (.readMem (fieldA w)) := by
  simp only [decodeCommand, h, fieldB, extractLsb'_beq_zero]; rfl

theorem decodeCommand_writeMem (h : opField w = 0x11#8) :
    decodeCommand w = .instr (.writeMem (fieldA w) (fieldB w)) := by
  simp only [decodeCommand, h]; rfl

theorem decodeCommand_readIo (h : opField w = 0x12#8) :
    decodeCommand w = whenZero (w &&& 0xFFFF0000#32 == 0#32) .reservedNotZero (.readIo (fieldALow w)) := by
  simp only [decodeCommand, h, fieldAHigh, fieldB, extractLsb'_beq_zero, and_beq_zero_and]; rfl

theorem decodeCommand_writeIo (h : opField w = 0x13#8) :
    decodeCommand w = whenZero (w &&& 0x00FF0000#32 == 0#32) .reservedNotZero (.writeIo (fieldALow w) (fieldB w)) := by
  simp only [decodeCommand, h, fieldAHigh, extractLsb'_beq_zero]; rfl

theorem decodeCommand_readRaw (h : opField w = 0x20#8) :
    decodeCommand w =
      if w &&& 0xFFFFFC00#32 == 0#32 then
        if w.extractLsb' 8 2 = 0#2 then .instr .readRawAddr
        else if w.extractLsb' 8 2 = 1#2 then .instr .readRawData
        else if w.extractLsb' 8 2 = 2#2 then .instr .readRawCtrl
        else .rejected .reservedSelector
      else .rejected .reservedNotZero := by
  simp only [decodeCommand, h, fieldB, extractLsb'_beq_zero, and_beq_zero_and]; rfl

theorem decodeCommand_setWait (h : opField w = 0x30#8) :
    decodeCommand w = whenZero (w &&& 0xFFFFFE00#32 == 0#32) .reservedNotZero (.setWait (w.getLsbD 8)) := by
  simp only [decodeCommand, h, fieldB, extractLsb'_one_beq, extractLsb'_beq_zero, and_beq_zero_and]; rfl

theorem decodeCommand_singleStep (h : opField w = 0x31#8) :
    decodeCommand w = whenZero (w &&& 0xFF000000#32 == 0#32) .reservedNotZero (.singleStep (fieldA w)) := by
  simp only [decodeCommand, h, fieldB, extractLsb'_beq_zero]; rfl

theorem decodeCommand_controlLine (h : opField w = 0x32#8) :
    decodeCommand w = whenZero (w &&& 0xFEFF0000#32 == 0#32) .reservedNotZero
      (.controlLine (fieldALow w) (w.getLsbD 24)) := by
  simp only [decodeCommand, h, fieldAHigh, extractLsb'_one_beq, extractLsb'_beq_zero, and_beq_zero_and]; rfl

/-- Every other opcode is illegal (R114). -/
theorem decodeCommand_unassigned (h : opField w ∉ commandOpcodes) : decodeCommand w = .rejected .unassignedOpcode := by
  simp only [commandOpcodes, List.mem_cons, List.not_mem_nil, or_false, not_or] at h
  simp only [decodeCommand, h, if_false]

end Decoder

/-! ## Operands (R115) -/

/-- What a row of R112 with reserved bits answers, if it answers an instruction. -/
theorem eq_of_whenZero {zero : Bool} {r : Reject} {i j : Instr} {d : Decoded} (hrow : d = whenZero zero r i)
    (hd : d = .instr j) : i = j :=
  (whenZero_eq_instr.1 (hrow.symm.trans hd)).2

/-- Settles O4: opcode by opcode, the instruction an opcode's equation answers has the fields of R115. -/
theorem operandAssembly : Obligations.OperandAssembly := by
  intro w i hd
  by_cases hop : opField w ∈ commandOpcodes
  · simp only [commandOpcodes, List.mem_cons, List.not_mem_nil, or_false] at hop
    rcases hop with h | h | h | h | h | h | h | h | h | h | h
    · obtain rfl := eq_of_whenZero (decodeCommand_configure h) hd; trivial
    · obtain rfl := eq_of_whenZero (decodeCommand_grab h) hd; trivial
    · obtain rfl := eq_of_whenZero (decodeCommand_release h) hd; trivial
    · obtain rfl := eq_of_whenZero (decodeCommand_readMem h) hd; rfl
    · cases (decodeCommand_writeMem h).symm.trans hd; exact ⟨rfl, rfl⟩
    · obtain rfl := eq_of_whenZero (decodeCommand_readIo h) hd; rfl
    · obtain rfl := eq_of_whenZero (decodeCommand_writeIo h) hd; exact ⟨rfl, rfl⟩
    · rw [decodeCommand_readRaw h] at hd
      split_ifs at hd with _ h0 h1 h2
      · cases hd; exact h0
      · cases hd; exact h1
      · cases hd; exact h2
    · obtain rfl := eq_of_whenZero (decodeCommand_setWait h) hd; rfl
    · obtain rfl := eq_of_whenZero (decodeCommand_singleStep h) hd; rfl
    · obtain rfl := eq_of_whenZero (decodeCommand_controlLine h) hd; exact ⟨rfl, rfl⟩
  · rw [decodeCommand_unassigned hop] at hd; cases hd

end Sys2Proof

namespace Sys2Proof.Machine

/-! ## Response words (R118, R121) -/

@[simp] theorem replyStatus_replyWord (status : Byte) (warn : Bool) (d16 : BitVec 16) (d8 : Byte) :
    replyStatus (replyWord status warn d16 d8) = status := by
  ext k hk
  simp only [replyStatus, replyWord, BitVec.getElem_extractLsb', BitVec.getLsbD_append]
  grind

@[simp] theorem replyWarn_replyWord (status : Byte) (warn : Bool) (d16 : BitVec 16) (d8 : Byte) :
    replyWarn (replyWord status warn d16 d8) = warn := by
  simp only [replyWarn, replyWord, extractLsb'_one_beq, BitVec.getLsbD_append]
  cases warn <;> rfl

@[simp] theorem replyD16_replyWord (status : Byte) (warn : Bool) (d16 : BitVec 16) (d8 : Byte) :
    replyD16 (replyWord status warn d16 d8) = d16 := by
  ext k hk
  simp only [replyD16, replyWord, BitVec.getElem_extractLsb', BitVec.getLsbD_append]
  grind

@[simp] theorem replyD8_replyWord (status : Byte) (warn : Bool) (d16 : BitVec 16) (d8 : Byte) :
    replyD8 (replyWord status warn d16 d8) = d8 := by
  ext k hk
  simp only [replyD8, replyWord, BitVec.getElem_extractLsb', BitVec.getLsbD_append]
  grind

/-! ## Illegal words (R113, R114) -/

theorem fetchCommand_wordBytes {s : State} {w : Word} {rest : List Byte} (hseq : s.seq = none)
    (hport : s.cmdPort = wordBytes w ++ rest) : fetchCommand s = some (w, { s with cmdPort := rest }) := by
  simp only [fetchCommand, hseq, hport, wordBytes, List.cons_append, List.nil_append, wordOfBytes_wordBytes]

/-- A rejected word is taken off the port and answered with `IllegalCommand` and its opcode, and nothing else happens. -/
theorem step_rejected {s : State} {w : Word} {rest : List Byte} {r : Reject} (hreg : registryOk s.params = true)
    (hhung : s.hung = false) (huop : s.uopPort = none) (hseq : s.seq = none) (hport : s.cmdPort = wordBytes w ++ rest)
    (hd : decodeCommand w = .rejected r) :
    step s = .next (answered { s with cmdPort := rest } (errReply false (.illegalCommand (opField w)))) := by
  simp [step, hhung, huop, fetchCommand_wordBytes hseq hport, hd, rejectCommand, hreg, respond, answered]

theorem errReply_illegalCommand (warn : Bool) (op : Byte) :
    replyStatus (errReply warn (.illegalCommand op)) = 0x05#8 ∧ replyD8 (errReply warn (.illegalCommand op)) = op ∧
      replyD16 (errReply warn (.illegalCommand op)) = 0#16 ∧ replyWarn (errReply warn (.illegalCommand op)) = warn := by
  simp [errReply, statusOf, errD16, errD8]

theorem opField_notMem_commandOpcodes {w : Word}
    (h : let op := w.toNat % 256
      op = 0x00 ∨ (0x04 ≤ op ∧ op ≤ 0x0F) ∨ (0x14 ≤ op ∧ op ≤ 0x1F) ∨ (0x21 ≤ op ∧ op ≤ 0x2F) ∨ 0x33 ≤ op) :
    opField w ∉ commandOpcodes := by
  intro hmem
  have hlisted := List.mem_map_of_mem (f := BitVec.toNat) hmem
  simp only [commandOpcodes, List.map_cons, List.map_nil, List.mem_cons, List.not_mem_nil, or_false, opField_toNat,
    BitVec.reduceToNat] at hlisted
  omega

/-- Settles O5: the ranges of R114 hold none of the opcodes of R112. -/
theorem unassignedOpcodeIsIllegal : Obligations.UnassignedOpcodeIsIllegal := by
  intro s w rest hreg hhung huop hseq hport hop
  have hd := decodeCommand_unassigned (opField_notMem_commandOpcodes hop)
  exact ⟨_, step_rejected hreg hhung huop hseq hport hd, errReply_illegalCommand _ _⟩

/-- A row of R112 rejects a word with one of its reserved bits set (R113). -/
theorem rejected_of_reservedBit {w m : Word} {r : Reject} {i : Instr}
    (hrow : decodeCommand w = whenZero (w &&& m == 0#32) r i) (hbit : w &&& m ≠ 0#32) : decodeCommand w = .rejected r := by
  rw [hrow, whenZero, if_neg (by simpa using hbit)]

theorem decodeCommand_readRaw_reservedBit {w : Word} (h : opField w = 0x20#8) (hbit : w &&& 0xFFFFFC00#32 ≠ 0#32) :
    decodeCommand w = .rejected .reservedNotZero := by
  rw [decodeCommand_readRaw h, if_neg (by simpa using hbit)]

/-- Selector 3 of `READ_RAW` is rejected, whatever the reserved bits are (R116). -/
theorem decodeCommand_readRaw_selector {w : Word} (h : opField w = 0x20#8) (hsel : w.extractLsb' 8 2 = 3#2) :
    ∃ r, decodeCommand w = .rejected r := by
  rw [decodeCommand_readRaw h, hsel]
  split
  · exact ⟨_, rfl⟩
  · exact ⟨_, rfl⟩

theorem extractLsb'_selector {w : Word} (h : w.toNat / 256 % 4 = 3) : w.extractLsb' 8 2 = 3#2 :=
  BitVec.eq_of_toNat_eq (by simpa [BitVec.extractLsb'_toNat, Nat.shiftRight_eq_div_pow] using h)

/-- Settles O6: each opcode's equation rejects a word with a bit on the opcode's reserved mask. -/
theorem reservedBitIsIllegal : Obligations.ReservedBitIsIllegal := by
  intro s w rest hreg hhung huop hseq hport hillegal
  suffices hd : ∃ r, decodeCommand w = .rejected r by
    obtain ⟨r, hd⟩ := hd
    exact ⟨_, step_rejected hreg hhung huop hseq hport hd, errReply_illegalCommand _ _⟩
  rcases hillegal with ⟨⟨op, m⟩, hm, hop, hbit⟩ | ⟨hop, hsel⟩
  · simp only [List.mem_cons, List.not_mem_nil, or_false, Prod.mk.injEq] at hm
    rcases hm with ⟨rfl, rfl⟩ | ⟨rfl, rfl⟩ | ⟨rfl, rfl⟩ | ⟨rfl, rfl⟩ | ⟨rfl, rfl⟩ | ⟨rfl, rfl⟩ | ⟨rfl, rfl⟩ | ⟨rfl, rfl⟩ |
      ⟨rfl, rfl⟩ | ⟨rfl, rfl⟩
    · exact ⟨_, rejected_of_reservedBit (decodeCommand_configure (opField_of_toNat hop)) hbit⟩
    · exact ⟨_, rejected_of_reservedBit (decodeCommand_grab (opField_of_toNat hop)) hbit⟩
    · exact ⟨_, rejected_of_reservedBit (decodeCommand_release (opField_of_toNat hop)) hbit⟩
    · exact ⟨_, rejected_of_reservedBit (decodeCommand_readMem (opField_of_toNat hop)) hbit⟩
    · exact ⟨_, rejected_of_reservedBit (decodeCommand_readIo (opField_of_toNat hop)) hbit⟩
    · exact ⟨_, rejected_of_reservedBit (decodeCommand_writeIo (opField_of_toNat hop)) hbit⟩
    · exact ⟨_, decodeCommand_readRaw_reservedBit (opField_of_toNat hop) hbit⟩
    · exact ⟨_, rejected_of_reservedBit (decodeCommand_setWait (opField_of_toNat hop)) hbit⟩
    · exact ⟨_, rejected_of_reservedBit (decodeCommand_singleStep (opField_of_toNat hop)) hbit⟩
    · exact ⟨_, rejected_of_reservedBit (decodeCommand_controlLine (opField_of_toNat hop)) hbit⟩
  · exact decodeCommand_readRaw_selector (opField_of_toNat hop) (extractLsb'_selector hsel)

end Sys2Proof.Machine

/-! # Direction values, the registry and the control bank (R129, R133, R134) -/

namespace Sys2Proof.Machine

/-! ## Direction values (R129) -/

/-- Settles O13: `DIRVAL` and the reading of a direction register take the same sense of the direction bit. -/
theorem directionValues : Obligations.DirectionValues := by
  refine ⟨fun p m h => by simp [dirVal, h], fun p m h => by simp [dirVal, h], fun p m => ?_, fun _ => rfl,
    fun p h => by simp [allIn, dirVal, h]⟩
  cases h : p.dirInputBit <;> simp [outputBits, dirVal, h]

/-! ## Single bits of a byte -/

theorem and_twoPow_bne_zero (v : Byte) {k : Nat} (hk : k < 8) : (v &&& BitVec.twoPow 8 k != 0#8) = v.getLsbD k := by
  have hbit : BitVec.twoPow 8 k ≠ 0#8 := fun h => by
    have := congrArg (BitVec.getLsbD · k) h
    simp [hk] at this
  rw [BitVec.and_twoPow]
  cases v.getLsbD k <;> simp [hbit]

theorem exists_twoPow_of_isSingleBit :
    ∀ m : Byte, isSingleBit m = true → ∃ k : Fin 8, m = BitVec.twoPow 8 k := by decide

/-! ## Lookup (R160) -/

/-- With no name twice, the search for a present record's name finds that record. -/
theorem find?_of_mem {map : List SignalRecord} {chips : ChipCount} {r : SignalRecord} (hnames : namesDistinct map = true)
    (hr : r ∈ map) (hpresent : recordPresent chips r = true) :
    map.find? (fun r' => r'.name == r.name && recordPresent chips r') = some r := by
  induction map with
  | nil => cases hr
  | cons x xs ih =>
    simp only [namesDistinct, Bool.and_eq_true, List.all_eq_true, bne_iff_ne] at hnames
    obtain ⟨hfresh, hnames⟩ := hnames
    rcases List.mem_cons.1 hr with rfl | hr
    · simp [hpresent]
    · simp [(hfresh r hr).symm, ih hnames hr]

theorem lookupBits_of_mem {p : Params} {n : SignalName} {b : BankId} {m : Byte}
    (hnames : namesDistinct p.signalMap = true) (hr : ⟨n, .bits b m⟩ ∈ p.signalMap)
    (hb : chipPresent p.numChips b.chip = true) : lookupBits p n = some (b, m) := by
  rw [lookupBits, lookup, find?_of_mem hnames hr hb]

/-! ## The default registry (R131) -/

section DefaultRegistry
variable {p : Params} (h : p.signalMap = defaultMap)
include h

/-- A record of the default registry on chip 0 or chip 1 is found by its name. -/
theorem lookupBits_default {n : SignalName} {b : BankId} {m : Byte} (hr : ⟨n, .bits b m⟩ ∈ defaultMap)
    (hb : b.chip ≠ .chip2) : lookupBits p n = some (b, m) := by
  refine lookupBits_of_mem (by rw [h]; decide) (h ▸ hr) ?_
  cases hc : b.chip with
  | chip0 => rfl
  | chip1 => rfl
  | chip2 => exact absurd hc hb

theorem lookupBits_default_ctrlBit {n : SignalName} {m : Byte} (hr : ⟨n, .bits ⟨.chip1, .portB⟩ m⟩ ∈ defaultMap) :
    lookupBits p n = some (⟨.chip1, .portB⟩, m) := lookupBits_default h hr (by decide)

theorem bankOf_ctrl_default : bankOf p .ctrl = ⟨.chip1, .portB⟩ := by
  rw [bankOf, lookupBits_default_ctrlBit h (m := 0xFF#8) (by decide)]

/-- `decodeCtrl` reads the eight single bits of the control bank, in the order of the registry (R131, R238). -/
theorem decodeCtrl_default (v : Byte) : decodeCtrl p v =
    [(.busak, v.getLsbD 0), (.rd, v.getLsbD 1), (.wr, v.getLsbD 2), (.ioreq, v.getLsbD 3), (.mreq, v.getLsbD 4),
      (.m1, v.getLsbD 5), (.ctrlSpare6, v.getLsbD 6), (.ctrlSpare7, v.getLsbD 7)] := by
  rw [decodeCtrl, bankOf_ctrl_default h, h]
  simp only [← and_twoPow_bne_zero, Nat.reduceLT]
  rfl

end DefaultRegistry

/-- Settles O15: each composite is the union of two records of the default registry. -/
theorem defaultRegistryReadings : Obligations.DefaultRegistryReadings := by
  intro p v h
  have mreq := lookupBits_default_ctrlBit h (n := .mreq) (m := 0x10#8) (by decide)
  have ioreq := lookupBits_default_ctrlBit h (n := .ioreq) (m := 0x08#8) (by decide)
  have rd := lookupBits_default_ctrlBit h (n := .rd) (m := 0x02#8) (by decide)
  have wr := lookupBits_default_ctrlBit h (n := .wr) (m := 0x04#8) (by decide)
  have addrLo := lookupBits_default h (n := .addrLo) (b := ⟨.chip0, .portA⟩) (m := 0xFF#8) (by decide) (by decide)
  refine ⟨?_, ?_, ?_, ?_, ?_, ?_, ?_, ?_, ?_, decodeCtrl_default h v⟩
  all_goals simp [lookupAll, memRdMask, memWrMask, ioRdMask, ioWrMask, maskOf, mreq, ioreq, rd, wr, addrLo]

/-! ## The partition of a bank (R162) -/

/-- The eight single bits of a bank. -/
def bankBits : List Byte := (List.range 8).map (BitVec.twoPow 8)

theorem bankBits_nodup : bankBits.Nodup := by decide

theorem getLsbD_foldl_or (ms : List Byte) (acc : Byte) (k : Nat) :
    (ms.foldl (· ||| ·) acc).getLsbD k = (acc.getLsbD k || ms.any (·.getLsbD k)) := by
  induction ms generalizing acc with
  | nil => simp
  | cons m ms ih => simp [ih, Bool.or_assoc]

/-- Single bits that cover a bank are all its bits. -/
theorem twoPow_mem_of_cover {ms : List Byte} (hsingle : ms.all isSingleBit = true)
    (hcover : ms.foldl (· ||| ·) 0#8 = 0xFF#8) {k : Nat} (hk : k < 8) : BitVec.twoPow 8 k ∈ ms := by
  have hall : (BitVec.allOnes 8).getLsbD k = true :=
    BitVec.getLsbD_allOnes.trans (decide_eq_true hk)
  obtain ⟨m, hm, hmk⟩ : ∃ m ∈ ms, m.getLsbD k = true := by
    rw [show BitVec.allOnes 8 = _ from hcover.symm, getLsbD_foldl_or] at hall
    simpa using hall
  obtain ⟨j, rfl⟩ := exists_twoPow_of_isSingleBit m (List.all_eq_true.1 hsingle m hm)
  obtain rfl : j.val = k := by simpa using hmk
  exact hm

/-- Eight single bits that cover a bank are distinct. -/
theorem nodup_of_cover {ms : List Byte} (hsingle : ms.all isSingleBit = true) (hlen : ms.length = 8)
    (hcover : ms.foldl (· ||| ·) 0#8 = 0xFF#8) : ms.Nodup := by
  have hsub : bankBits ⊆ ms := by
    intro b hb
    obtain ⟨k, hk, rfl⟩ := List.mem_map.1 hb
    exact twoPow_mem_of_cover hsingle hcover (List.mem_range.1 hk)
  have hperm : bankBits.Perm ms := (bankBits_nodup.subperm hsub).perm_of_length_le (by rw [hlen]; rfl)
  exact hperm.nodup bankBits_nodup

theorem singlesOn_nodup {map : List SignalRecord} {b : BankId} (h : bankPartitioned map b = true) :
    (singlesOn map b).Nodup := by
  simp only [bankPartitioned, Bool.and_eq_true] at h
  obtain ⟨-, h⟩ := h
  split at h
  · rename_i hempty
    rw [List.isEmpty_iff.1 hempty]
    exact List.nodup_nil
  · simp only [Bool.and_eq_true, beq_iff_eq] at h
    obtain ⟨⟨hsingle, hlen⟩, hcover⟩ := h
    exact nodup_of_cover hsingle hlen hcover

/-- Two records on one bank do not share a single bit. -/
theorem mask_ne_of_nodup {map : List SignalRecord} {b : BankId} {n n' : SignalName} {m m' : Byte}
    (h : (singlesOn map b).Nodup) (hr : ⟨n, .bits b m⟩ ∈ map) (hr' : ⟨n', .bits b m'⟩ ∈ map) (hn : n ≠ n')
    (hm : m ≠ 0xFF#8) : m ≠ m' := by
  rintro rfl
  rw [singlesOn, masksOn, List.Nodup, List.pairwise_filter, List.pairwise_filterMap] at h
  have hpair := @List.Pairwise.forall _ _ _
    ⟨fun _ _ hab m hm m' hm' hs hs' => (hab m' hm' m hm hs' hs).symm⟩ h _ hr _ hr' (by simpa using hn)
  exact hpair m (by simp) m (by simp) (by simpa using hm) (by simpa using hm) rfl

theorem mem_allBanks (b : BankId) : b ∈ allBanks := by
  obtain ⟨c, k⟩ := b
  cases c <;> cases k <;> decide

theorem bankPartitioned_of_registryOk {p : Params} (hok : registryOk p = true) {b : BankId}
    (hb : chipPresent p.numChips b.chip = true) : bankPartitioned p.signalMap b = true := by
  simp only [registryOk, checkPartition, Bool.and_eq_true] at hok
  obtain ⟨⟨⟨⟨⟨-, hbanks⟩, -⟩, -⟩, -⟩, -⟩ := hok
  simpa [hb] using List.all_eq_true.1 hbanks b (mem_allBanks b)

/-! ## The records of the control bits (R160, R164) -/

theorem lookup_some {p : Params} {n : SignalName} {r : SignalRecord} (h : lookup p n = some r) :
    r ∈ p.signalMap ∧ r.name = n ∧ recordPresent p.numChips r = true := by
  have hr := List.find?_some h
  simp only [Bool.and_eq_true, beq_iff_eq] at hr
  exact ⟨List.mem_of_find?_eq_some h, hr⟩

theorem lookupBits_some {p : Params} {n : SignalName} {b : BankId} {m : Byte} (h : lookupBits p n = some (b, m)) :
    ⟨n, .bits b m⟩ ∈ p.signalMap ∧ chipPresent p.numChips b.chip = true := by
  unfold lookupBits at h
  split at h
  · rename_i hl
    cases h
    obtain ⟨hmem, rfl, hpresent⟩ := lookup_some hl
    exact ⟨hmem, hpresent⟩
  · cases h

theorem lookupBits_of_isCtrlBit {p : Params} {n : SignalName} (h : isCtrlBit p n = true) :
    lookupBits p n = some (bankOf p .ctrl, maskOf p n) ∧ isSingleBit (maskOf p n) = true := by
  unfold isCtrlBit at h
  split at h
  · rename_i b m hl
    simp only [Bool.and_eq_true, beq_iff_eq] at h
    obtain ⟨rfl, hm⟩ := h
    have hmask : maskOf p n = m := by simp [maskOf, hl]
    exact ⟨hmask ▸ hl, hmask ▸ hm⟩
  · cases h

theorem exists_bit_of_isCtrlBit {p : Params} {n : SignalName} (h : isCtrlBit p n = true) :
    ∃ k < 8, maskOf p n = BitVec.twoPow 8 k := by
  obtain ⟨-, hsingle⟩ := lookupBits_of_isCtrlBit h
  obtain ⟨k, hk⟩ := exists_twoPow_of_isSingleBit _ hsingle
  exact ⟨k, k.isLt, hk⟩

/-- Under a registry that passes the checks, two names do not share a bit of the control bank (R162, R164). -/
theorem maskOf_ne_of_isCtrlBit {p : Params} (hok : registryOk p = true) {n n' : SignalName} (hn : isCtrlBit p n = true)
    (hn' : isCtrlBit p n' = true) (hne : n ≠ n') : maskOf p n ≠ maskOf p n' := by
  obtain ⟨hl, hsingle⟩ := lookupBits_of_isCtrlBit hn
  obtain ⟨hl', -⟩ := lookupBits_of_isCtrlBit hn'
  obtain ⟨hmem, hpresent⟩ := lookupBits_some hl
  obtain ⟨hmem', -⟩ := lookupBits_some hl'
  have hpart := bankPartitioned_of_registryOk hok hpresent
  exact mask_ne_of_nodup (singlesOn_nodup hpart) hmem hmem' hne fun hall => by rw [hall] at hsingle; cases hsingle

/-! ## The control-bank output value (R133) -/

/-- The strobes of the control bank (R133). -/
def strobes : List SignalName := [.mreq, .ioreq, .rd, .wr]

section ControlBank
variable {p : Params} (hok : registryOk p = true) {n : SignalName} (hn : n ∈ strobes)

include hok hn in
theorem isCtrlBit_of_strobe : isCtrlBit p n = true := by
  simp only [registryOk, checkControlBits, Bool.and_eq_true] at hok
  obtain ⟨⟨⟨-, hbits, -⟩, -⟩, -⟩ := hok
  have hsub : strobes ⊆ [.mreq, .ioreq, .rd, .wr, .busak] := by decide
  exact List.all_eq_true.1 hbits n (hsub hn)

include hok hn in
/-- The bit of a strobe, in the Active-high bits of any strobe: only its own are on it. -/
theorem getLsbD_highBits {n' : SignalName} (hn' : n' ∈ strobes) {k : Nat} (hk : k < 8)
    (hbit : maskOf p n = BitVec.twoPow 8 k) :
    (highBits p n').getLsbD k = (activeLevel p n && decide (n' = n)) := by
  by_cases heq : n' = n
  · subst heq
    cases ha : activeLevel p n' <;> simp [highBits, ha, hbit, hk]
  · have hctrl' := isCtrlBit_of_strobe hok hn'
    have hne := maskOf_ne_of_isCtrlBit hok hctrl' (isCtrlBit_of_strobe hok hn) heq
    obtain ⟨j, hj, hbit'⟩ := exists_bit_of_isCtrlBit hctrl'
    have hjk : j ≠ k := fun h => hne (by rw [hbit, hbit', h])
    cases ha : activeLevel p n' <;> simp [highBits, ha, hbit', heq, hjk]

include hok hn in
theorem getLsbD_strobeHigh {k : Nat} (hk : k < 8) (hbit : maskOf p n = BitVec.twoPow 8 k) :
    (strobeHigh p).getLsbD k = activeLevel p n := by
  have high {n'} (hn' : n' ∈ strobes) := getLsbD_highBits hok hn hn' hk hbit
  simp only [strobeHigh, BitVec.getLsbD_or, high (n' := .mreq) (by decide), high (n' := .ioreq) (by decide),
    high (n' := .rd) (by decide), high (n' := .wr) (by decide)]
  simp only [strobes, List.mem_cons, List.not_mem_nil, or_false] at hn
  rcases hn with rfl | rfl | rfl | rfl <;> simp

include hn in
theorem getLsbD_strobeMask {k : Nat} (hk : k < 8) (hbit : maskOf p n = BitVec.twoPow 8 k) :
    (strobeMask p).getLsbD k = true := by
  simp only [strobes, List.mem_cons, List.not_mem_nil, or_false] at hn
  rcases hn with rfl | rfl | rfl | rfl <;> simp [strobeMask, hbit, hk]

include hok hn in
/-- A strobe's bit is 1 exactly when being asserted and being active high agree. -/
theorem getLsbD_ctrlValue {k : Nat} (hk : k < 8) (hbit : maskOf p n = BitVec.twoPow 8 k) (m : Byte) :
    (ctrlValue p m).getLsbD k = (m.getLsbD k == activeLevel p n) := by
  simp only [ctrlValue, BitVec.getLsbD_or, BitVec.getLsbD_not, BitVec.getLsbD_xor, getLsbD_strobeMask hn hk hbit,
    getLsbD_strobeHigh hok hn hk hbit, hk]
  cases m.getLsbD k <;> cases activeLevel p n <;> rfl

end ControlBank

theorem ctrlValue_and_not_strobeMask (p : Params) (m : Byte) : ctrlValue p m &&& ~~~strobeMask p = ~~~strobeMask p := by
  rw [ctrlValue, BitVec.and_comm]
  ext k hk
  simp only [BitVec.getElem_and, BitVec.getElem_or]
  cases (~~~strobeMask p)[k] <;> rfl

/-- With every signal active low, the strobes of `m` are the bits at 0. -/
theorem ctrlValue_of_activeLow {p : Params} {m : Byte} (hlow : p.activeHigh = []) (hm : m &&& ~~~strobeMask p = 0x00#8) :
    ctrlValue p m = ~~~m := by
  have hhigh : strobeHigh p = 0#8 := by simp [strobeHigh, highBits, activeLevel, hlow]
  rw [ctrlValue, hhigh, BitVec.xor_zero]
  ext k hk
  have hbit := congrArg (·[k]) hm
  simp only [BitVec.getElem_and, BitVec.getElem_not, BitVec.getElem_zero] at hbit
  simp only [BitVec.getElem_or, BitVec.getElem_not]
  grind

/-- Settles O14: each strobe has a bit of its own, where `ctrlValue` says whether being in `m` and being active high
agree. -/
theorem controlBankValue : Obligations.ControlBankValue := by
  intro p m hok hm
  refine ⟨fun n hn => ?_, ctrlValue_and_not_strobeMask p m, fun hlow => ctrlValue_of_activeLow hlow hm⟩
  obtain ⟨k, hk, hbit⟩ := exists_bit_of_isCtrlBit (isCtrlBit_of_strobe hok hn)
  rw [hbit, and_twoPow_bne_zero _ hk, getLsbD_ctrlValue hok hn hk hbit, ← and_twoPow_bne_zero m hk]
  constructor
  · intro hin
    rw [bne_iff_ne.2 hin, Bool.true_beq]
  · intro hout
    rw [hout, bne_self_eq_false, Bool.false_beq]

end Sys2Proof.Machine

/-! # `LINE_ASSERT` (R171)

What `lineAssert` does to its line is `lineAssert_ran`. The micro-op adds the sequencer's record and result, which are no
port actions; and since the history only grows, the actions between the two states are what the trace gained. -/

namespace Sys2Proof.Machine

/-! ## The history grows (R47) -/

/-- The history is extended, never cut. -/
def HistoryGrows (s t : State) : Prop := s.history <+: t.history

theorem historyGrows_rel : Rel HistoryGrows where
  refl s := List.prefix_refl s.history
  trans h k := List.IsPrefix.trans h k

theorem historyGrows_envMove (d : Draw) (s : State) : HistoryGrows s (envMove d (dropDraw s)) := by
  simp [HistoryGrows]

theorem historyGrows_noteErr (e : Err) (s : State) : HistoryGrows s (noteErr e s) := historyGrows_rel.refl s

/-- A port action extends the history when its act does. -/
theorem historyGrows_portAction {d : Draw} {f : State → State} (hf : ∀ m, HistoryGrows m (f m)) (s : State) :
    HistoryGrows s (portAction d f (dropDraw s)) := by
  obtain ⟨m, hm⟩ := portAction_history d f (dropDraw s)
  exact (historyGrows_envMove d s).trans ((hf _).trans ⟨_, hm.symm⟩)

/-- A completed and a failed write are both recorded; one that hangs records nothing of its own (R47, R327). -/
theorem historyGrows_xferW (c : ChipId) (r : Reg) (v : Byte) : Stays HistoryGrows (xferW c r v) := by
  intro s
  rcases xferW_cases c r v s with ⟨-, h⟩ | ⟨x, -, h⟩ | ⟨-, h⟩ <;> rw [h]
  · exact historyGrows_portAction (fun m => by exact m.history.prefix_append _) s
  · exact historyGrows_rel.trans (historyGrows_portAction (fun m => by exact m.history.prefix_append _) s)
      (historyGrows_noteErr _ _)
  · exact historyGrows_envMove _ s

/-- A completed and a failed read are both recorded; one that hangs records nothing of its own (R47, R327). -/
theorem historyGrows_xferR (id : BankId) : Stays HistoryGrows (xferR id) := by
  intro s
  rcases xferR_cases id s with ⟨-, h⟩ | ⟨x, -, h⟩ | ⟨-, h⟩ <;> rw [h]
  · exact historyGrows_portAction (fun m => by exact m.history.prefix_append _) s
  · exact historyGrows_rel.trans (historyGrows_portAction (fun m => by exact m.history.prefix_append _) s)
      (historyGrows_noteErr _ _)
  · exact historyGrows_envMove _ s

theorem historyGrows_pinFrame (l : Line) : PinFrame HistoryGrows l where
  toRel := historyGrows_rel
  level _ s := historyGrows_portAction (fun m => by exact m.history.prefix_append _) s
  dir _ s := historyGrows_portAction (fun m => by exact m.history.prefix_append _) s
  pullUp _ s := historyGrows_portAction (fun m => by exact m.history.prefix_append _) s

theorem historyGrows_commandFrame : CommandFrame HistoryGrows where
  toRel := historyGrows_rel
  seq _ s := historyGrows_rel.refl s
  event _ s := s.history.prefix_append _
  write := historyGrows_xferW
  read := historyGrows_xferR
  pins := historyGrows_pinFrame
  arb _ s := historyGrows_rel.refl s
  configured _ s := historyGrows_rel.refl s
  pending _ s := historyGrows_rel.refl s
  sequencer _ s := historyGrows_rel.refl s
  respond _ s := s.history.prefix_append _
  uopResult _ s := historyGrows_rel.refl s

/-- What the history gained on some kind of event is those events among the new ones. -/
theorem filter_newEvents {s t : State} {p : Event → Bool} {evs : List Event} (h : HistoryGrows s t)
    (ht : t.history.filter p = s.history.filter p ++ evs) : (newEvents s t).filter p = evs := by
  obtain ⟨new, hnew⟩ := h
  rw [← hnew, List.filter_append] at ht
  rw [newEvents, ← hnew, List.drop_left]
  exact List.append_cancel_left ht

theorem Ran.portActions {n : Nat} {evs : List Event} {s t : State} (h : Ran n evs s t) (hg : HistoryGrows s t) :
    portActions s t = evs := filter_newEvents hg h.trace

theorem Ran.busCycles {n : Nat} {evs : List Event} {s t : State} (h : Ran n evs s t) (hg : HistoryGrows s t) :
    busCycles s t = [] := filter_newEvents hg (by rw [h.cycles, List.append_nil])

/-! ## A micro-op and its body (R122) -/

/-- The state from which a micro-op's body starts and the one in which it is left differ from those of the micro-op in the
sequencer's record, and in the result kept, only (log 9, log 25). -/
theorem microOp_ok {i : Instr} {body : Op UopResult} {s : State} {v : UopResult} (hreg : registryOk s.params = true)
    (hok : ∀ q, (body (setSeq q s)).1 = .ok v) :
    ∃ q q', microOp i body s = .next (setUopResult v (setSeq q' (body (setSeq q s)).2)) := by
  cases hseq : s.seq with
  | some q =>
    refine ⟨s.seq, (body s).2.seq, ?_⟩
    have hv : (body s).1 = .ok v := hok s.seq
    simp only [microOp, hreg, if_true, hseq, hv, uopResultOf]
    rw [← hseq]
    rfl
  | none =>
    refine ⟨some (freshSeq i), ?_⟩
    have hv := hok (some (freshSeq i))
    simp only [microOp, hreg, if_true, hseq]
    generalize body (setSeq (some (freshSeq i)) s) = out at hv ⊢
    refine ⟨if out.2.hung then out.2.seq else none, ?_⟩
    rw [hv, uopResultOf]
    split
    · rfl
    · rfl

/-- The sequencer's record and result are no part of what a run of port actions does. -/
theorem Ran.microOp {n : Nat} {evs : List Event} {q q' : Option Sequencer} {v : UopResult} {s t : State}
    (h : Ran n evs (setSeq q s) t) : Ran n evs s (setUopResult v (setSeq q' t)) where
  params := h.params
  configured := h.configured
  arb := h.arb
  pending := h.pending
  hung := h.hung
  draws := h.draws
  trace := h.trace
  cycles := h.cycles

/-! ## Lines -/

section PerLine
variable {α : Type} (x : PerLine α) {l l' : Line} (v : α)

@[simp] theorem ofLine_withLine_same : ofLine (withLine x l v) l = v := by cases l <;> rfl

theorem ofLine_withLine_of_ne (h : l' ≠ l) : ofLine (withLine x l v) l' = ofLine x l' := by
  cases l <;> cases l' <;> simp [withLine, ofLine] at h ⊢

@[simp] theorem withLine_ofLine : withLine x l (ofLine x l) = x := by cases l <;> rfl

end PerLine

theorem lineAssert_response (l : Line) (s : State) : (lineAssert l s).response = s.response := by
  simp [lineAssert, gpioDir, gpioWrite]

theorem lineAsserted_iff {s : State} {l : Line} :
    lineAsserted s l = true ↔ ofLine s.lines l = assertedPin s.params l (ofLine s.lines l) := beq_iff_eq

/-- The pin of an asserted line drives the Active level, whatever the environment does (R24, R42). -/
theorem lineLevel_of_asserted {s : State} {l : Line} (h : lineAsserted s l = true) (d : Draw) :
    lineLevel s d l = activeLevel s.params (lineSignal l) := by
  rw [lineLevel, lineAsserted_iff.1 h]
  rfl

/-- Settles O45: the micro-op is `lineAssert` of its line. -/
theorem lineAssertResult : Obligations.LineAssertResult := by
  intro s code l hreg hl
  obtain ⟨q, q', hnext⟩ := microOp_ok (i := .lineAssert code) (v := .done)
    (body := andThen (act (lineAssert l)) fun _ => result .done) hreg fun _ => rfl
  have hexec : exec (.lineAssert code) s = .next (setUopResult .done (setSeq q' (lineAssert l (setSeq q s)))) := by
    simp only [exec, execLineAssert, hl]
    exact hnext
  have hgrows := exec_stays historyGrows_commandFrame hexec
  have hasserted := lineAsserted_lineAssert l (setSeq q s)
  have hlevel := lineLevel_of_asserted hasserted
  obtain ⟨hran, hchips, hlines⟩ := lineAssert_ran l (setSeq q s)
  have hresponse := lineAssert_response l (setSeq q s)
  generalize lineAssert l (setSeq q s) = m at *
  have hmicro : Ran 2 (assertTrace s.params l) s (setUopResult .done (setSeq q' m)) := hran.microOp
  refine ⟨_, hexec, rfl, hmicro.portActions hgrows, ?_, ?_, hasserted, ?_, ?_, hchips, hmicro.arb, hmicro.configured,
    hmicro.pending, hresponse, hmicro.busCycles hgrows⟩
  · simp [hlines, assertedPin]
  · exact fun d => (hlevel d).trans (by rw [hran.params]; rfl)
  · intro hs
    simp [hlines, ← lineAsserted_iff.1 hs]
  · intro l' hne
    simp [hlines, ofLine_withLine_of_ne _ _ hne]

end Sys2Proof.Machine

/-! # `GRAB` while `Owned` (R202)

Neither the check before `GRAB` nor `grab` itself performs a port action here; what is left is the warning in the history
and the response, whose warn bit is the sequencer record's. -/

namespace Sys2Proof.Machine

/-- The checks of R328 pass when the block is configured and, where it is asked for, owns the bus. -/
theorem precheck_passes {α : Type} {needsOwned : Bool} {o : Op α} {s : State} (hc : s.configured = true)
    (ho : needsOwned = true → s.arb = .owned) : precheck needsOwned o s = o s := by
  have hbus : ¬ (needsOwned = true ∧ s.arb = .released) := fun ⟨hn, hr⟩ => by rw [ho hn] at hr; cases hr
  simp only [precheck, hc, hbus, Bool.true_eq_false, if_false]

theorem grabOp_of_owned {s : State} (h : s.arb = .owned) :
    grabOp s = (.ok (), record .warnAlreadyOwned (setWarn s)) := by
  simp only [grabOp, h]

/-- An operation that succeeds without result bytes. -/
theorem noData_of_ok {o : Op Unit} {s t : State} (h : o s = (.ok (), t)) : noData o s = (.ok (0#16, 0#8), t) := by
  simp only [noData, andThen, h, result]

/-- The response word of an `OK` with the warn bit and no result bytes (R118, R120). -/
theorem okReply_warn_noData : okReply true 0#16 0#8 = 0x0000000100#40 := by decide

/-- Settles O21: the command's body only records the warning and sets the warn bit, which the response carries. -/
theorem grabWhileOwned : Obligations.GrabWhileOwned := by
  intro s hreg hconf howned
  have hbody : ∀ q, precheck false (noData grabOp) (setSeq q s) =
      (.ok (0#16, 0#8), record .warnAlreadyOwned (setWarn (setSeq q s))) := fun q =>
    (precheck_passes (needsOwned := false) (s := setSeq q s) hconf nofun).trans (noData_of_ok (grabOp_of_owned howned))
  calc exec .grab s
      = .next (respond (okReply true 0#16 0#8)
          (record .warnAlreadyOwned (setWarn (setSeq (some (freshSeq .grab)) s)))) := by
        simp only [exec, execGrab, command_of_ok hreg, hbody]
        rfl
    _ = .next (answered { s with history := s.history ++ [.warnAlreadyOwned] } 0x0000000100#40) := by
        rw [okReply_warn_noData]
        rfl

end Sys2Proof.Machine

/-! # The precondition of the four transactions (R230)

A command whose checks raise an error has done nothing but record it in its own sequencer record, which ends with the
response; so only the response is left. -/

namespace Sys2Proof.Machine

/-- Each of the four transactions is checked for configuration and ownership before anything else. -/
theorem exec_of_isTransaction {i : Instr} (hi : isTransaction i = true) :
    ∃ o, ∀ s, exec i s = command i (precheck true o) s := by
  cases i with
  | readMem a => exact ⟨inD8 (readMemoryOp a), fun _ => rfl⟩
  | writeMem a v => exact ⟨noData (writeMemoryOp a v), fun _ => rfl⟩
  | readIo port => exact ⟨inD8 (readIoOp port), fun _ => rfl⟩
  | writeIo port v => exact ⟨noData (writeIoOp port v), fun _ => rfl⟩
  | _ => cases hi

theorem precheck_notConfigured {α : Type} {needsOwned : Bool} {o : Op α} {s : State} (hc : s.configured = false) :
    precheck needsOwned o s = raise .notConfigured s := by
  simp only [precheck, hc, if_true]

theorem precheck_busNotOwned {α : Type} {o : Op α} {s : State} (hc : s.configured = true) (hr : s.arb = .released) :
    precheck true o s = raise .busNotOwned s := by
  simp only [precheck, hc, hr, and_self, if_true, Bool.true_eq_false, if_false]

/-- A command that only raises an error answers with that error and leaves the rest of the state (R329). -/
theorem command_of_raise {i : Instr} {body : Op (BitVec 16 × Byte)} {e : Err} {s : State}
    (hreg : registryOk s.params = true) (hbody : ∀ q, body (setSeq q s) = raise e (setSeq q s)) :
    command i body s = .next (answered s (errReply false e)) := by
  rw [command_of_ok hreg, hbody]
  rfl

/-- The response word of `NotConfigured` without the warn bit (R118, R121). -/
theorem errReply_notConfigured : errReply false .notConfigured = 0x0000000006#40 := by decide

/-- The response word of `BusNotOwned` without the warn bit (R118, R121). -/
theorem errReply_busNotOwned : errReply false .busNotOwned = 0x0000000002#40 := by decide

/-- Settles O18: the checks before a transaction raise the error, and a command that only raises one only answers. -/
theorem transactionPrecondition : Obligations.TransactionPrecondition := by
  intro i s hi hreg
  obtain ⟨o, hexec⟩ := exec_of_isTransaction hi
  refine ⟨fun hc => ?_, fun hc hr => ?_⟩
  · rw [hexec, command_of_raise hreg fun q => precheck_notConfigured (s := setSeq q s) hc, errReply_notConfigured]
  · rw [hexec, command_of_raise hreg fun q => precheck_busNotOwned (s := setSeq q s) hc hr, errReply_busNotOwned]

end Sys2Proof.Machine

/-! # `NotConfigured` before a successful CONFIGURE (R326)

A command that needs `CONFIGURE` runs its operation behind the checks of R328, so before `CONFIGURE` it never reaches that
operation and only raises `NotConfigured`. -/

namespace Sys2Proof.Machine

/-- A `CONTROL_LINE` with a known signal code is checked for configuration before it acts on its line (R281, R328). -/
theorem execControlLine_of_known {signal : Byte} {l : Line} (hl : controlLineOf signal = some l) (pulse : Bool)
    (s : State) : execControlLine signal pulse s =
      command (.controlLine signal pulse) (precheck false (noData (act (pulseLine l pulse)))) s := by
  simp only [execControlLine, hl]

/-- Each command that needs `CONFIGURE` is checked for configuration, and perhaps for ownership, before anything else. -/
theorem exec_of_needsConfigure {i : Instr} (hi : needsConfigure i = true) :
    ∃ needsOwned o, ∀ s, exec i s = command i (precheck needsOwned o) s := by
  cases i with
  | configure => cases hi
  | grab => exact ⟨false, noData grabOp, fun _ => rfl⟩
  | release => exact ⟨false, noData releaseOp, fun _ => rfl⟩
  | readMem | writeMem | readIo | writeIo => exact ⟨true, exec_of_isTransaction rfl⟩
  | readRawAddr => exact ⟨false, inD16 readRawAddrOp, fun _ => rfl⟩
  | readRawData => exact ⟨false, inD8 (readRawBankOp .data), fun _ => rfl⟩
  | readRawCtrl => exact ⟨false, inD8 (readRawBankOp .ctrl), fun _ => rfl⟩
  | setWait active => exact ⟨false, noData (setWaitOp active), fun _ => rfl⟩
  | singleStep target => exact ⟨false, singleStepOp target, fun _ => rfl⟩
  | controlLine signal pulse =>
    obtain ⟨l, hl⟩ := Option.isSome_iff_exists.mp hi
    exact ⟨false, noData (act (pulseLine l pulse)), execControlLine_of_known hl pulse⟩
  | readBank | writeBank | restoreBank | lineAssert | lineRelease => cases hi

/-- Settles O17: the check before the body raises `NotConfigured`, and a command that only raises an error only
answers. -/
theorem notConfiguredBeforeAnything : Obligations.NotConfiguredBeforeAnything := by
  intro i s hi hreg hc
  obtain ⟨needsOwned, o, hexec⟩ := exec_of_needsConfigure hi
  rw [hexec, command_of_raise hreg fun q => precheck_notConfigured (s := setSeq q s) hc, errReply_notConfigured]

end Sys2Proof.Machine

/-! # Block reset (R360)

A block reset sets the block's own state only. Of a discrete line it sets the direction alone, and the history of the new
run holds no event. -/

namespace Sys2Proof.Machine

section
variable (s : State)

/-- Every discrete pin becomes an input; the level last written and the pull-up stay (R360, log 11). -/
@[simp] theorem ofLine_blockReset (l : Line) :
    ofLine (blockReset s).lines l = { ofLine s.lines l with dir := .input } := by
  cases l <;> rfl

@[simp] theorem blockReset_history : (blockReset s).history = [] := rfl

end

/-- Settles O11: the lines by `ofLine_blockReset`, no port action because the history of the new run is empty, and every
other field as `blockReset` sets or keeps it. -/
theorem blockResetValues : Obligations.BlockResetValues := by
  intro s
  have hdir (l : Line) : (ofLine (blockReset s).lines l).dir = .input := by rw [ofLine_blockReset]
  have hquiet : (blockReset s).history.filter isPortAction = [] := by rw [blockReset_history, List.filter_nil]
  exact ⟨rfl, rfl, rfl, hdir, rfl, hquiet, rfl, rfl, rfl⟩

end Sys2Proof.Machine

/-! # The instruction words: the encoder against the decoders (R110 to R115, R122 to R124)

Both words are their fields put together, so a decoder that reads the fields back inverts the encoder, and a word with its
reserved fields zero is the encoding of what it decodes to. -/

namespace Sys2Proof

/-! ## Fields of a word put together -/

section CommandWord
variable (op : Byte) (a : BitVec 16) (b : Byte)

@[simp] theorem opField_commandWord : opField (commandWord op a b) = op := Laws.OpcodeByte.of_command op a b

/-- A field inside the operand `A` of a command word (R111). -/
theorem extractLsb'_commandWord_A {lo len : Nat} (h : lo + len ≤ 16) :
    (commandWord op a b).extractLsb' (lo + 8) len = a.extractLsb' lo len := by
  ext k hk
  simp only [commandWord, BitVec.getElem_extractLsb', BitVec.getLsbD_append]
  grind

/-- A field inside the operand `B` of a command word (R111). -/
theorem extractLsb'_commandWord_B {lo len : Nat} :
    (commandWord op a b).extractLsb' (lo + 24) len = b.extractLsb' lo len := by
  ext k hk
  simp only [commandWord, BitVec.getElem_extractLsb', BitVec.getLsbD_append]
  grind

@[simp] theorem fieldA_commandWord : fieldA (commandWord op a b) = a :=
  (extractLsb'_commandWord_A op a b (lo := 0) (by decide)).trans BitVec.extractLsb'_eq_self

@[simp] theorem fieldB_commandWord : fieldB (commandWord op a b) = b :=
  (extractLsb'_commandWord_B op a b (lo := 0)).trans BitVec.extractLsb'_eq_self

@[simp] theorem fieldALow_commandWord : fieldALow (commandWord op a b) = a.extractLsb' 0 8 :=
  extractLsb'_commandWord_A op a b (lo := 0) (by decide)

@[simp] theorem fieldAHigh_commandWord : fieldAHigh (commandWord op a b) = a.extractLsb' 8 8 :=
  extractLsb'_commandWord_A op a b (lo := 8) (by decide)

end CommandWord

section MicroWord
variable (op : Byte) (c : BitVec 2) (k : BitVec 1) (l : BitVec 3) (v m : Byte)

@[simp] theorem opField_microWord : opField (microWord op c k l v m) = op := Laws.OpcodeByte.of_micro op c k l v m

@[simp] theorem uopChip_microWord : uopChip (microWord op c k l v m) = c := by
  ext i hi; simp only [uopChip, microWord, BitVec.getElem_extractLsb', BitVec.getLsbD_append]; grind

@[simp] theorem bankField_microWord : (microWord op c k l v m).extractLsb' 10 1 = k := by
  ext i hi; simp only [microWord, BitVec.getElem_extractLsb', BitVec.getLsbD_append]; grind

@[simp] theorem uopLine_microWord : uopLine (microWord op c k l v m) = l := by
  ext i hi; simp only [uopLine, microWord, BitVec.getElem_extractLsb', BitVec.getLsbD_append]; grind

@[simp] theorem uopReserved_microWord : uopReserved (microWord op c k l v m) = 0#2 := by
  ext i hi; simp only [uopReserved, microWord, BitVec.getElem_extractLsb', BitVec.getLsbD_append]; grind

@[simp] theorem uopValue_microWord : uopValue (microWord op c k l v m) = v := by
  ext i hi; simp only [uopValue, microWord, BitVec.getElem_extractLsb', BitVec.getLsbD_append]; grind

@[simp] theorem uopMask_microWord : uopMask (microWord op c k l v m) = m := by
  ext i hi; simp only [uopMask, microWord, BitVec.getElem_extractLsb', BitVec.getLsbD_append]; grind

/-- The chip and bank fields of a word for a discrete line are read together (R122). -/
theorem chipAndBank_microWord : (microWord op c k l v m).extractLsb' 8 3 = k ++ c := by
  ext i hi; simp only [microWord, BitVec.getElem_extractLsb', BitVec.getLsbD_append]; grind

end MicroWord

/-! ## A word is its fields -/

/-- A command word is its three fields (R111). -/
theorem commandWord_of_fields {w : Word} {op : Byte} {a : BitVec 16} {b : Byte} (hop : opField w = op)
    (ha : fieldA w = a) (hb : fieldB w = b) : commandWord op a b = w := by
  subst hop ha hb
  ext k hk
  simp only [commandWord, opField, fieldA, fieldB, BitVec.getLsbD_append, BitVec.getLsbD_extractLsb',
    ← BitVec.getLsbD_eq_getElem]
  grind

/-- The operand `A` is its two bytes (R111). -/
theorem fieldAHigh_append_fieldALow (w : Word) : fieldAHigh w ++ fieldALow w = fieldA w := by
  ext k hk
  simp only [fieldAHigh, fieldALow, fieldA, BitVec.getLsbD_append, BitVec.getLsbD_extractLsb',
    ← BitVec.getLsbD_eq_getElem]
  grind

/-- A micro-op word with its reserved bits 0 is its other six fields (R122). -/
theorem microWord_of_fields {w : Word} {op : Byte} {c : BitVec 2} {k : BitVec 1} {l : BitVec 3} {v m : Byte}
    (hr : uopReserved w = 0#2) (hop : opField w = op) (hc : uopChip w = c) (hk : w.extractLsb' 10 1 = k)
    (hl : uopLine w = l) (hv : uopValue w = v) (hm : uopMask w = m) : microWord op c k l v m = w := by
  subst hop hc hk hl hv hm
  rw [microWord, ← hr]
  ext j hj
  simp only [opField, uopChip, uopLine, uopReserved, uopValue, uopMask, BitVec.getLsbD_append,
    BitVec.getLsbD_extractLsb', ← BitVec.getLsbD_eq_getElem]
  grind

/-! ## Decoding an encoding -/

/-- The half of the opcode map a word lies in is a bit of its opcode (R114). -/
theorem isMicroOpWord_eq (w : Word) : isMicroOpWord w = (opField w).getLsbD 7 := by
  rw [isMicroOpWord, extractLsb'_one_beq, opField, BitVec.getLsbD_extractLsb']; simp

theorem decodeWord_commandWord {op : Byte} (hop : op.getLsbD 7 = false) (a : BitVec 16) (b : Byte) :
    decodeWord (commandWord op a b) = decodeCommand (commandWord op a b) := by
  rw [decodeWord, isMicroOpWord_eq, opField_commandWord, hop, if_neg Bool.false_ne_true]

theorem decodeWord_microWord {op : Byte} (hop : op.getLsbD 7 = true) (c : BitVec 2) (k : BitVec 1) (l : BitVec 3)
    (v m : Byte) : decodeWord (microWord op c k l v m) = decodeMicroOp (microWord op c k l v m) := by
  rw [decodeWord, isMicroOpWord_eq, opField_microWord, hop, if_pos rfl]

theorem highByte_append (v : Byte) : (0#8 ++ v : BitVec 16).extractLsb' 8 8 = 0#8 := by
  ext k hk; simp only [BitVec.getElem_extractLsb', BitVec.getLsbD_append]; grind

theorem lowByte_append (v : Byte) : (0#8 ++ v : BitVec 16).extractLsb' 0 8 = v := by
  ext k hk; simp only [BitVec.getElem_extractLsb', BitVec.getLsbD_append]; grind

/-- The bank of a micro-op word is the one its bank bit was made from (R122). -/
theorem uopBank_microWord (op : Byte) (c : BitVec 2) (k : Bank) (l : BitVec 3) (v m : Byte) :
    uopBank (microWord op c (bankBit k) l v m) = k := by
  rw [uopBank, bankField_microWord]; cases k <;> rfl

theorem bankBit_uopBank (w : Word) : w.extractLsb' 10 1 = bankBit (uopBank w) := by
  unfold uopBank
  generalize w.extractLsb' 10 1 = x
  revert x; decide

/-- The five micro-op words decode to their micro-ops (R122, R123). -/
theorem decodeMicroOp_readBank (c : BitVec 2) (k : Bank) :
    decodeMicroOp (microWord 0x80#8 c (bankBit k) 0#3 0#8 0#8) = .instr (.readBank c k) := by
  simp [decodeMicroOp, uopBank_microWord, whenZero]

theorem decodeMicroOp_writeBank (c : BitVec 2) (k : Bank) (v m : Byte) :
    decodeMicroOp (microWord 0x81#8 c (bankBit k) 0#3 v m) = .instr (.writeBank c k v m) := by
  simp [decodeMicroOp, uopBank_microWord, whenZero]

theorem decodeMicroOp_restoreBank (c : BitVec 2) (k : Bank) :
    decodeMicroOp (microWord 0x82#8 c (bankBit k) 0#3 0#8 0#8) = .instr (.restoreBank c k) := by
  simp [decodeMicroOp, uopBank_microWord, whenZero]

theorem decodeMicroOp_lineAssert (l : BitVec 3) :
    decodeMicroOp (microWord 0x84#8 0#2 0#1 l 0#8 0#8) = .instr (.lineAssert l) := by
  simp [decodeMicroOp, chipAndBank_microWord, whenZero]

theorem decodeMicroOp_lineRelease (l : BitVec 3) :
    decodeMicroOp (microWord 0x85#8 0#2 0#1 l 0#8 0#8) = .instr (.lineRelease l) := by
  simp [decodeMicroOp, chipAndBank_microWord, whenZero]


/-- The selector of a probe word (R116), and the zeros above it. -/
theorem decodeCommand_probe {sel : BitVec 16} (hsel : sel.extractLsb' 2 14 = 0#14) :
    decodeCommand (commandWord 0x20#8 sel 0#8) =
      if sel.extractLsb' 0 2 = 0#2 then .instr .readRawAddr
      else if sel.extractLsb' 0 2 = 1#2 then .instr .readRawData
      else if sel.extractLsb' 0 2 = 2#2 then .instr .readRawCtrl
      else .rejected .reservedSelector := by
  have hzero := extractLsb'_commandWord_A 0x20#8 sel 0#8 (lo := 2) (len := 14) (by decide)
  have hcode := extractLsb'_commandWord_A 0x20#8 sel 0#8 (lo := 0) (len := 2) (by decide)
  simp only [Nat.reduceAdd] at hzero hcode
  simp [decodeCommand, hzero, hcode, hsel]

theorem decodeCommand_setWaitWord (active : Bool) :
    decodeCommand (commandWord 0x30#8 (0#15 ++ flagBit active) 0#8) = .instr (.setWait active) := by
  have hzero := extractLsb'_commandWord_A 0x30#8 (0#15 ++ flagBit active) 0#8 (lo := 1) (len := 15) (by decide)
  have hflag := extractLsb'_commandWord_A 0x30#8 (0#15 ++ flagBit active) 0#8 (lo := 0) (len := 1) (by decide)
  simp only [Nat.reduceAdd] at hzero hflag
  simp only [decodeCommand, opField_commandWord, hzero, hflag]
  cases active <;> simp [flagBit, whenZero]

theorem decodeCommand_controlLineWord (signal : Byte) (pulse : Bool) :
    decodeCommand (commandWord 0x32#8 (0#8 ++ signal) (0#7 ++ flagBit pulse)) = .instr (.controlLine signal pulse) := by
  have hzero := extractLsb'_commandWord_B 0x32#8 (0#8 ++ signal) (0#7 ++ flagBit pulse) (lo := 1) (len := 7)
  have hflag := extractLsb'_commandWord_B 0x32#8 (0#8 ++ signal) (0#7 ++ flagBit pulse) (lo := 0) (len := 1)
  simp only [Nat.reduceAdd] at hzero hflag
  simp only [decodeCommand, opField_commandWord, fieldAHigh_commandWord, fieldALow_commandWord, highByte_append,
    lowByte_append, hzero, hflag]
  cases pulse <;> simp [flagBit, whenZero]

/-- The word of an instruction decodes to it: a command by the command decoder, a micro-op by the other. -/
theorem decodeWord_encode (i : Instr) : decodeWord (encode i) = .instr i := by
  cases i with
  | configure | grab | release => rw [encode, decodeWord_commandWord (by decide)]; simp [decodeCommand, whenZero]
  | readMem a | singleStep a => rw [encode, decodeWord_commandWord (by decide)]; simp [decodeCommand, whenZero]
  | writeMem a v => rw [encode, decodeWord_commandWord (by decide)]; simp [decodeCommand]
  | readIo port | writeIo port v =>
    rw [encode, decodeWord_commandWord (by decide)]
    simp [decodeCommand, whenZero, highByte_append, lowByte_append]
  | readRawAddr | readRawData | readRawCtrl =>
    rw [encode, decodeWord_commandWord (by decide), decodeCommand_probe (by decide)]; rfl
  | setWait active => exact (decodeWord_commandWord (by decide) _ _).trans (decodeCommand_setWaitWord active)
  | controlLine signal pulse =>
    exact (decodeWord_commandWord (by decide) _ _).trans (decodeCommand_controlLineWord signal pulse)
  | readBank c k => exact (decodeWord_microWord (by decide) ..).trans (decodeMicroOp_readBank c k)
  | writeBank c k v m => exact (decodeWord_microWord (by decide) ..).trans (decodeMicroOp_writeBank c k v m)
  | restoreBank c k => exact (decodeWord_microWord (by decide) ..).trans (decodeMicroOp_restoreBank c k)
  | lineAssert l => exact (decodeWord_microWord (by decide) ..).trans (decodeMicroOp_lineAssert l)
  | lineRelease l => exact (decodeWord_microWord (by decide) ..).trans (decodeMicroOp_lineRelease l)

/-- Settles O1: the four bytes of a word are the word again, and `decodeWord_encode` decodes it. -/
theorem decodeEncodeRoundTrip : Obligations.DecodeEncodeRoundTrip := by
  intro i rest
  have hword := wordOfBytes_wordBytes (encode i)
  simp only [wordBytes, List.cons_append, List.nil_append, decodeBytes, hword, decodeWord_encode]

/-! ## The word of a decoded instruction -/

/-- A flag operand read from a field of one bit (R115). -/
theorem flagBit_beq_one (x : BitVec 1) : flagBit (x == 1#1) = x := by revert x; decide

theorem fieldA_of_high_zero {w : Word} (h : fieldAHigh w = 0#8) : fieldA w = 0#8 ++ fieldALow w := by
  rw [← fieldAHigh_append_fieldALow, h]

/-- The operand `A` with its bits above bit 0 zero is that bit (R115). -/
theorem fieldA_of_flag {w : Word} (h : w.extractLsb' 9 15 = 0#15) :
    fieldA w = 0#15 ++ flagBit (w.getLsbD 8) := by
  rw [← extractLsb'_one_beq, flagBit_beq_one, ← h]
  ext k hk
  simp only [fieldA, BitVec.getLsbD_append, BitVec.getLsbD_extractLsb', ← BitVec.getLsbD_eq_getElem]
  grind

/-- The operand `B` with its bits above bit 0 zero is that bit (R115). -/
theorem fieldB_of_flag {w : Word} (h : w.extractLsb' 25 7 = 0#7) :
    fieldB w = 0#7 ++ flagBit (w.getLsbD 24) := by
  rw [← extractLsb'_one_beq, flagBit_beq_one, ← h]
  ext k hk
  simp only [fieldB, BitVec.getLsbD_append, BitVec.getLsbD_extractLsb', ← BitVec.getLsbD_eq_getElem]
  grind

/-- The operand `A` with its bits above the selector zero is the selector (R116). -/
theorem fieldA_of_selector {w : Word} (h : w.extractLsb' 10 14 = 0#14) : fieldA w = 0#14 ++ w.extractLsb' 8 2 := by
  rw [← h]
  ext k hk
  simp only [fieldA, BitVec.getLsbD_append, BitVec.getLsbD_extractLsb', ← BitVec.getLsbD_eq_getElem]
  grind

/-- A field whose bits a word avoids is zero. -/
theorem extractLsb'_of_and_eq_zero {w m : Word} {lo len : Nat} (h : (w &&& m == 0#32) = true)
    (hm : m &&& fieldMask lo len = fieldMask lo len) : w.extractLsb' lo len = 0#len := by
  rw [extractLsb'_eq_zero_iff, ← hm, ← BitVec.and_assoc, eq_of_beq h, BitVec.zero_and]

/-- What a row of R112 with reserved bits answers, if it answers an instruction, and the reserved bits it avoids. -/
theorem of_whenZero {zero : Bool} {r : Reject} {i j : Instr} {d : Decoded} (hrow : d = whenZero zero r i)
    (hd : d = .instr j) : zero = true ∧ i = j :=
  whenZero_eq_instr.1 (hrow.symm.trans hd)

/-- The encoding of a probe is its word (R116). -/
theorem commandWord_of_selector {w : Word} {sel : BitVec 2} {a : BitVec 16} (ha : 0#14 ++ sel = a)
    (hop : opField w = 0x20#8) (hz : (w &&& 0xFFFFFC00#32 == 0#32) = true) (hsel : w.extractLsb' 8 2 = sel) :
    commandWord 0x20#8 a 0#8 = w := by
  have hA := fieldA_of_selector (extractLsb'_of_and_eq_zero hz (by decide) : w.extractLsb' 10 14 = 0#14)
  rw [hsel, ha] at hA
  exact commandWord_of_fields hop hA (extractLsb'_of_and_eq_zero hz (by decide))

theorem encode_of_decodeCommand {w : Word} {i : Instr} (hd : decodeCommand w = .instr i) : encode i = w := by
  by_cases hop : opField w ∈ commandOpcodes
  · simp only [commandOpcodes, List.mem_cons, List.not_mem_nil, or_false] at hop
    rcases hop with h | h | h | h | h | h | h | h | h | h | h
    · obtain ⟨hz, rfl⟩ := of_whenZero (decodeCommand_configure h) hd
      exact commandWord_of_fields h (extractLsb'_of_and_eq_zero hz (by decide)) (extractLsb'_of_and_eq_zero hz (by decide))
    · obtain ⟨hz, rfl⟩ := of_whenZero (decodeCommand_grab h) hd
      exact commandWord_of_fields h (extractLsb'_of_and_eq_zero hz (by decide)) (extractLsb'_of_and_eq_zero hz (by decide))
    · obtain ⟨hz, rfl⟩ := of_whenZero (decodeCommand_release h) hd
      exact commandWord_of_fields h (extractLsb'_of_and_eq_zero hz (by decide)) (extractLsb'_of_and_eq_zero hz (by decide))
    · obtain ⟨hz, rfl⟩ := of_whenZero (decodeCommand_readMem h) hd
      exact commandWord_of_fields h rfl (extractLsb'_of_and_eq_zero hz (by decide))
    · cases (decodeCommand_writeMem h).symm.trans hd
      exact commandWord_of_fields h rfl rfl
    · obtain ⟨hz, rfl⟩ := of_whenZero (decodeCommand_readIo h) hd
      exact commandWord_of_fields h (fieldA_of_high_zero (extractLsb'_of_and_eq_zero hz (by decide)))
        (extractLsb'_of_and_eq_zero hz (by decide))
    · obtain ⟨hz, rfl⟩ := of_whenZero (decodeCommand_writeIo h) hd
      exact commandWord_of_fields h (fieldA_of_high_zero (extractLsb'_of_and_eq_zero hz (by decide))) rfl
    · rw [decodeCommand_readRaw h] at hd
      split_ifs at hd with hz h0 h1 h2
      · cases hd; exact commandWord_of_selector (by decide) h hz h0
      · cases hd; exact commandWord_of_selector (by decide) h hz h1
      · cases hd; exact commandWord_of_selector (by decide) h hz h2
    · obtain ⟨hz, rfl⟩ := of_whenZero (decodeCommand_setWait h) hd
      exact commandWord_of_fields h (fieldA_of_flag (extractLsb'_of_and_eq_zero hz (by decide)))
        (extractLsb'_of_and_eq_zero hz (by decide))
    · obtain ⟨hz, rfl⟩ := of_whenZero (decodeCommand_singleStep h) hd
      exact commandWord_of_fields h rfl (extractLsb'_of_and_eq_zero hz (by decide))
    · obtain ⟨hz, rfl⟩ := of_whenZero (decodeCommand_controlLine h) hd
      exact commandWord_of_fields h (fieldA_of_high_zero (extractLsb'_of_and_eq_zero hz (by decide)))
        (fieldB_of_flag (extractLsb'_of_and_eq_zero hz (by decide)))
  · rw [decodeCommand_unassigned hop] at hd; cases hd

/-- A word for a discrete line has chip 0 and bank A in its unused fields (R123). -/
theorem chip_bank_of_zero {w : Word} (h : w.extractLsb' 8 3 = 0#3) : uopChip w = 0#2 ∧ w.extractLsb' 10 1 = 0#1 := by
  have hbits (j : Nat) : (w.extractLsb' 8 3).getLsbD j = false := by rw [h]; simp
  simp only [BitVec.getLsbD_extractLsb'] at hbits
  refine ⟨BitVec.eq_of_getLsbD_eq fun j hj => ?_, BitVec.eq_of_getLsbD_eq fun j hj => ?_⟩
  · have := hbits j
    simp only [uopChip, BitVec.getLsbD_extractLsb', BitVec.getLsbD_zero]
    grind
  · have := hbits (j + 2)
    simp only [BitVec.getLsbD_extractLsb', BitVec.getLsbD_zero]
    grind

theorem encode_of_decodeMicroOp {w : Word} {i : Instr} (hd : decodeMicroOp w = .instr i) : encode i = w := by
  unfold decodeMicroOp at hd
  split_ifs at hd with h80 h81 h82 h84 h85
  all_goals
    obtain ⟨hz, rfl⟩ := whenZero_eq_instr.1 hd
    simp only [Bool.and_eq_true, beq_iff_eq] at hz
  · obtain ⟨⟨hl, hr⟩, hv, hm⟩ := hz
    exact microWord_of_fields hr h80 rfl (bankBit_uopBank w) hl hv hm
  · obtain ⟨hl, hr⟩ := hz
    exact microWord_of_fields hr h81 rfl (bankBit_uopBank w) hl rfl rfl
  · obtain ⟨⟨hl, hr⟩, hv, hm⟩ := hz
    exact microWord_of_fields hr h82 rfl (bankBit_uopBank w) hl hv hm
  · obtain ⟨⟨hb, hr⟩, hv, hm⟩ := hz
    exact microWord_of_fields hr h84 (chip_bank_of_zero hb).1 (chip_bank_of_zero hb).2 rfl hv hm
  · obtain ⟨⟨hb, hr⟩, hv, hm⟩ := hz
    exact microWord_of_fields hr h85 (chip_bank_of_zero hb).1 (chip_bank_of_zero hb).2 rfl hv hm

/-- Settles O2: row by row, a word's fields are its instruction's operands, and its other fields are zero. -/
theorem encodeOfDecodedWord : Obligations.EncodeOfDecodedWord := by
  intro w i hd
  unfold decodeWord at hd
  split at hd
  · exact encode_of_decodeMicroOp hd
  · exact encode_of_decodeCommand hd

end Sys2Proof

namespace Sys2Proof.Machine

/-! ## Micro-op words (R122, R123) -/

/-- A bank word written field by field, the line field and the reserved bits together (R122). -/
theorem bankWord_eq (uop : Byte) (c : BitVec 2) (k : BitVec 1) (v m : Byte) :
    m ++ v ++ 0#5 ++ k ++ c ++ uop = microWord uop c k 0#3 v m := by
  ext j hj; simp only [microWord, ← BitVec.getLsbD_eq_getElem, BitVec.getLsbD_append]; grind

/-- A line word written field by field, the bank and chip fields together (R122). -/
theorem lineWord_eq (uop : Byte) (l : BitVec 3) :
    0#8 ++ 0#8 ++ 0#2 ++ l ++ 0#3 ++ uop = microWord uop 0#2 0#1 l 0#8 0#8 := by
  ext j hj; simp only [microWord, ← BitVec.getLsbD_eq_getElem, BitVec.getLsbD_append]; grind

theorem uopChip_toNat (w : Word) : (uopChip w).toNat = w.toNat / 256 % 4 := by
  simp [uopChip, BitVec.extractLsb'_toNat, Nat.shiftRight_eq_div_pow]

theorem uopLine_toNat (w : Word) : (uopLine w).toNat = w.toNat / 2048 % 8 := by
  simp [uopLine, BitVec.extractLsb'_toNat, Nat.shiftRight_eq_div_pow]

/-- The sequencer refuses a word that decodes to no micro-op it can perform (R123). -/
theorem step_microOp_refused {s : State} {w : Word} (hhung : s.hung = false) (huop : s.uopPort = some w)
    (h : ∀ i, decodeMicroOp w = .instr i → exec i (takeUop s) = .refused .microOpNotGenerated) :
    step s = .refused .microOpNotGenerated := by
  unfold step
  rw [hhung, huop, if_neg Bool.false_ne_true]
  dsimp only
  cases hd : decodeMicroOp w with
  | instr i => exact h i hd
  | rejected r => rfl

theorem uopBankId_absent {s : State} {c : BitVec 2} (h : (chipsOf s.params.numChips).length ≤ c.toNat) (k : Bank) :
    uopBankId s c k = none := by
  have hcodes : ∀ c : BitVec 2, c = 0#2 ∨ c = 1#2 ∨ c = 2#2 ∨ c = 3#2 := by decide
  unfold uopBankId
  cases hn : s.params.numChips <;> rcases hcodes c with rfl | rfl | rfl | rfl <;>
    simp [chipsOf, chipOfCode, chipPresent, hn] at h ⊢

theorem lineOfCode_unassigned : ∀ {l : BitVec 3}, 5 ≤ l.toNat → lineOfCode l = none := by decide

/-- The field `lo .. lo + len - 1` of a word, zero in an accepted word, is not set (R123). -/
theorem and_eq_zero_of_field {w : Word} {lo len : Nat} (h : w.extractLsb' lo len = 0#len) : w &&& fieldMask lo len = 0#32 :=
  (extractLsb'_eq_zero_iff w lo len).1 h

/-- The value and mask fields lie side by side (R122). -/
theorem and_eq_zero_of_bytes {w : Word} (hv : uopValue w = 0#8) (hm : uopMask w = 0#8) : w &&& 0xFFFF0000#32 = 0#32 := by
  have h := and_beq_zero_and w (fieldMask 16 8) (fieldMask 24 8)
  rw [and_eq_zero_of_field hv, and_eq_zero_of_field hm] at h
  exact eq_of_beq h.symm

/-- What R123 refuses of a micro-op word, with `chips` chips present: another `uop`, a reserved bit, an absent chip, an
unassigned line code, or a bit of an unused field. -/
def BadMicroWord (chips : Nat) (w : Word) : Prop :=
  let uop := w.toNat % 256
  let onBank := uop = 0x80 ∨ uop = 0x81 ∨ uop = 0x82
  let onLine := uop = 0x84 ∨ uop = 0x85
  ¬(onBank ∨ onLine) ∨ w &&& 0x0000C000#32 ≠ 0#32 ∨ (onBank ∧ chips ≤ w.toNat / 256 % 4) ∨
    (onLine ∧ 5 ≤ w.toNat / 2048 % 8) ∨ (onBank ∧ w &&& 0x00003800#32 ≠ 0#32) ∨
    (onLine ∧ w &&& 0x00000700#32 ≠ 0#32) ∨ (uop ≠ 0x81 ∧ w &&& 0xFFFF0000#32 ≠ 0#32)

/-- A bad word for a bank, with its other fields as they must be, names an absent chip. -/
theorem BadMicroWord.absentChip {chips : Nat} {w : Word} (h : BadMicroWord chips w)
    (hop : opField w = 0x80#8 ∨ opField w = 0x81#8 ∨ opField w = 0x82#8) (hr : uopReserved w = 0#2)
    (hl : uopLine w = 0#3) (hb : opField w ≠ 0x81#8 → w &&& 0xFFFF0000#32 = 0#32) :
    chips ≤ (uopChip w).toNat := by
  have huop : w.toNat % 256 = 0x80 ∨ w.toNat % 256 = 0x81 ∨ w.toNat % 256 = 0x82 := by
    rw [← opField_toNat]
    rcases hop with h | h | h <;> simp [h]
  rw [uopChip_toNat]
  rcases h with h | h | ⟨-, h⟩ | ⟨h, -⟩ | ⟨-, h⟩ | ⟨h, -⟩ | ⟨hne, h⟩
  · exact absurd (.inl huop) h
  · exact absurd (and_eq_zero_of_field hr) h
  · exact h
  · omega
  · exact absurd (and_eq_zero_of_field hl) h
  · omega
  · exact absurd (hb fun he => hne (by rw [← opField_toNat, he]; rfl)) h

/-- A bad word for a line, with its other fields as they must be, has an unassigned line code. -/
theorem BadMicroWord.unassignedLine {chips : Nat} {w : Word} (h : BadMicroWord chips w)
    (hop : opField w = 0x84#8 ∨ opField w = 0x85#8) (hr : uopReserved w = 0#2) (hc : w.extractLsb' 8 3 = 0#3)
    (hb : w &&& 0xFFFF0000#32 = 0#32) : 5 ≤ (uopLine w).toNat := by
  have huop : w.toNat % 256 = 0x84 ∨ w.toNat % 256 = 0x85 := by
    rw [← opField_toNat]
    rcases hop with h | h <;> simp [h]
  rw [uopLine_toNat]
  rcases h with h | h | ⟨h, -⟩ | ⟨-, h⟩ | ⟨h, -⟩ | ⟨-, h⟩ | ⟨-, h⟩
  · exact absurd (.inr huop) h
  · exact absurd (and_eq_zero_of_field hr) h
  · omega
  · exact h
  · omega
  · exact absurd (and_eq_zero_of_field hc) h
  · exact absurd hb h

/-- A word that decodes to a micro-op and is bad all the same has no meaning: its chip or its line is missing. -/
theorem exec_badMicroWord {s : State} {w : Word} {i : Instr} (hd : decodeMicroOp w = .instr i)
    (hbad : BadMicroWord (chipsOf s.params.numChips).length w) : exec i s = .refused .microOpNotGenerated := by
  unfold decodeMicroOp at hd
  split_ifs at hd with h80 h81 h82 h84 h85
  all_goals
    obtain ⟨hz, rfl⟩ := whenZero_eq_instr.1 hd
    simp only [Bool.and_eq_true, beq_iff_eq] at hz
  · obtain ⟨⟨hl, hr⟩, hv, hm⟩ := hz
    have hchip := hbad.absentChip (.inl h80) hr hl fun _ => and_eq_zero_of_bytes hv hm
    simp only [exec, execReadBank, uopBankId_absent hchip]
  · obtain ⟨hl, hr⟩ := hz
    have hchip := hbad.absentChip (.inr (.inl h81)) hr hl fun hne => absurd h81 hne
    simp only [exec, execWriteBank, uopBankId_absent hchip]
  · obtain ⟨⟨hl, hr⟩, hv, hm⟩ := hz
    have hchip := hbad.absentChip (.inr (.inr h82)) hr hl fun _ => and_eq_zero_of_bytes hv hm
    simp only [exec, execRestoreBank, uopBankId_absent hchip]
  · obtain ⟨⟨hc, hr⟩, hv, hm⟩ := hz
    have hline := hbad.unassignedLine (.inl h84) hr hc (and_eq_zero_of_bytes hv hm)
    simp only [exec, execLineAssert, lineOfCode_unassigned hline]
  · obtain ⟨⟨hc, hr⟩, hv, hm⟩ := hz
    have hline := hbad.unassignedLine (.inr h85) hr hc (and_eq_zero_of_bytes hv hm)
    simp only [exec, execLineRelease, lineOfCode_unassigned hline]

/-- Settles O7: a word of the five forms decodes to its micro-op, and a word that decodes to one has its other fields zero,
so that only an absent chip and an unassigned line are left to be refused. -/
theorem microOpWords : Obligations.MicroOpWords := by
  refine ⟨fun c v m => ?_, fun l => ?_, fun s w hhung huop hbad => step_microOp_refused hhung huop fun i hd => ?_⟩
  · simp only [bankWord_eq]
    exact ⟨decodeMicroOp_readBank c .portA, decodeMicroOp_readBank c .portB, decodeMicroOp_writeBank c .portA v m,
      decodeMicroOp_writeBank c .portB v m, decodeMicroOp_restoreBank c .portA, decodeMicroOp_restoreBank c .portB⟩
  · simp only [lineWord_eq]
    exact ⟨decodeMicroOp_lineAssert l, decodeMicroOp_lineRelease l⟩
  · exact exec_badMicroWord (s := takeUop s) hd hbad

end Sys2Proof.Machine

/-! # The step, the registry, the power-on state and the response words -/

namespace Sys2Proof.Machine

/-- Settles O3: every word is concrete, so the decoder computes each answer. -/
theorem specWordsDecode : Obligations.SpecWordsDecode := by
  unfold Obligations.SpecWordsDecode
  decide

/-! ## The step (R110, R122) -/

theorem step_command {s : State} {w : Word} {rest : List Byte} {i : Instr} (hhung : s.hung = false)
    (huop : s.uopPort = none) (hseq : s.seq = none) (hport : s.cmdPort = wordBytes w ++ rest)
    (hd : decodeCommand w = .instr i) : step s = exec i { s with cmdPort := rest } := by
  simp [step, hhung, huop, fetchCommand_wordBytes hseq hport, hd]

/-- An incomplete word waits on its port, and so does every word while a command is in progress (R110, log 31). -/
theorem fetchCommand_none {s : State} (h : s.cmdPort.length < 4 ∨ s.seq ≠ none) : fetchCommand s = none := by
  unfold fetchCommand
  split
  · rename_i hseq hport
    rw [hseq, hport] at h
    simp only [List.length_cons, ne_eq, not_true_eq_false, or_false] at h
    omega
  · rfl

/-- Settles O8: each clause is one branch of `step`. -/
theorem stepRunsDecodedInstruction : Obligations.StepRunsDecodedInstruction := by
  refine ⟨fun s w rest i hhung huop hseq hport hd => step_command hhung huop hseq hport hd,
    fun s w i hhung huop hd => ?_, fun s hhung huop hidle => ?_, fun s hhung => ?_⟩
  · simp [step, hhung, huop, hd, takeUop]
  · simp [step, hhung, huop, fetchCommand_none hidle]
  · simp [step, hhung]

/-! ## The checks of a registry (R162 to R166) -/

/-- Every instruction of the command port is a command over some body (R110). -/
theorem exec_of_isCommand {i : Instr} (hi : isCommand i = true) : ∃ body, ∀ s, exec i s = command i body s := by
  cases i with
  | configure => exact ⟨noData configureOp, fun _ => rfl⟩
  | grab => exact ⟨precheck false (noData grabOp), fun _ => rfl⟩
  | release => exact ⟨precheck false (noData releaseOp), fun _ => rfl⟩
  | readMem a => exact ⟨precheck true (inD8 (readMemoryOp a)), fun _ => rfl⟩
  | writeMem a v => exact ⟨precheck true (noData (writeMemoryOp a v)), fun _ => rfl⟩
  | readIo port => exact ⟨precheck true (inD8 (readIoOp port)), fun _ => rfl⟩
  | writeIo port v => exact ⟨precheck true (noData (writeIoOp port v)), fun _ => rfl⟩
  | readRawAddr => exact ⟨precheck false (inD16 readRawAddrOp), fun _ => rfl⟩
  | readRawData => exact ⟨precheck false (inD8 (readRawBankOp .data)), fun _ => rfl⟩
  | readRawCtrl => exact ⟨precheck false (inD8 (readRawBankOp .ctrl)), fun _ => rfl⟩
  | setWait active => exact ⟨precheck false (noData (setWaitOp active)), fun _ => rfl⟩
  | singleStep target => exact ⟨precheck false (singleStepOp target), fun _ => rfl⟩
  | controlLine signal pulse => exact ⟨_, fun _ => rfl⟩
  | readBank | writeBank | restoreBank | lineAssert | lineRelease => cases hi

/-- The source's test registry has no discrete WAIT (R132, R165). -/
theorem registryOk_testMap (p : Params) : registryOk { p with signalMap := testMap } = false := by
  have hwait : isDiscrete { p with signalMap := testMap } (lineSignal .wait) = false := rfl
  have hheld : checkHeldLines { p with signalMap := testMap } = false := by
    simp only [checkHeldLines, allLines, List.all_cons, hwait, Bool.false_and, Bool.and_false]
  simp only [registryOk, hheld, Bool.and_false, Bool.false_and]

/-- The default registry passes with two chips and with three (R131). -/
theorem registryOk_of_defaultMap {p : Params} (h : p.signalMap = defaultMap) : registryOk p = true := by
  obtain ⟨chips, _, map⟩ := p
  obtain rfl : map = defaultMap := h
  cases chips
  · rfl
  · rfl

theorem signalMap_of_defaultWiring {p : Params} (h : defaultWiring p = true) : p.signalMap = defaultMap := by
  simp only [defaultWiring, Bool.and_eq_true, beq_iff_eq] at h
  exact h.1

theorem activeHigh_of_defaultWiring {p : Params} (h : defaultWiring p = true) : p.activeHigh = [] := by
  simp only [defaultWiring, Bool.and_eq_true, beq_iff_eq] at h
  exact h.2

theorem registryOk_of_defaultWiring {p : Params} (h : defaultWiring p = true) : registryOk p = true :=
  registryOk_of_defaultMap (signalMap_of_defaultWiring h)

/-- Settles O10: a command asks for the registry's checks before its body. -/
theorem rejectedRegistryIsRefused : Obligations.RejectedRegistryIsRefused := by
  refine ⟨fun i s hi hreg => ?_, registryOk_testMap, fun p h => registryOk_of_defaultWiring h⟩
  obtain ⟨body, hexec⟩ := exec_of_isCommand hi
  rw [hexec, command, hreg, if_neg Bool.false_ne_true]

/-! ## The power-on state (R51, R361) -/

theorem chipRegs_reset (c : ChipId) : chipRegs State.reset.chips c = porChip := by cases c <;> rfl

theorem bankRegs_reset (id : BankId) : bankRegs State.reset.chips id = porBank := by
  rw [bankRegs, chipRegs_reset]
  cases id.bank <;> rfl

/-- Settles O12: the fields are those of `State.powerOn`, and the expanders' registers are `porChip` on every chip. -/
theorem powerOnState : Obligations.PowerOnState := by
  have hdrive (id : BankId) : blockDrive State.reset id = 0x00#8 := by rw [blockDrive, bankRegs_reset]; decide
  refine ⟨rfl, rfl, rfl, fun l => ?_, rfl, rfl, rfl, ⟨List.Pairwise.nil, nofun⟩, nofun, hdrive,
    fun _ _ h => gpioPin_injective _ h, fun c => ?_, fun id => ?_⟩
  · cases l <;> rfl
  · rw [chipRegs_reset]; rfl
  · rw [bankRegs_reset]; exact ⟨rfl, rfl, rfl, rfl, rfl⟩

/-! ## Response words (R118 to R121) -/

theorem reserved_replyWord (status : Byte) (warn : Bool) (d16 : BitVec 16) (d8 : Byte) :
    (replyWord status warn d16 d8).extractLsb' 9 7 = 0#7 := by
  ext k hk
  simp only [replyWord, BitVec.getElem_extractLsb', BitVec.getLsbD_append]
  grind

theorem toNat_append_byte (x y : Byte) : (x ++ y : BitVec 16).toNat = x.toNat * 256 + y.toNat := by
  rw [BitVec.toNat_append, ← Nat.shiftLeft_add_eq_or_of_lt y.isLt, Nat.shiftLeft_eq]

/-- Settles O16: each field of a response word is the one `replyWord` was given. -/
theorem responseWordFields : Obligations.ResponseWordFields := by
  refine ⟨fun w a v => ?_, fun w e => ?_, fun w code => ?_, fun w => ?_, fun w c r k => ?_, fun w op => ?_⟩
  · simp [okReply, statusOk, reserved_replyWord]
  · simp [errReply, reserved_replyWord]
  · simp [errReply, statusOf, errD16, errD8]
  · cases w <;> decide
  · simp only [errReply, replyStatus_replyWord, replyD16_replyWord, replyD8_replyWord, errD16, errD8,
      toNat_append_byte, BitVec.toNat_ofNat]
    exact ⟨rfl, trivial, trivial⟩
  · obtain ⟨hs, h8, h16, -⟩ := errReply_illegalCommand w op
    exact ⟨hs, h16, h8⟩

end Sys2Proof.Machine

/-! # Laws of operations

A property of operations that the combinators keep, and that the transfers, the pin actions and the block's own updates
have, holds of every operation of the block. `OpLaw`, `TransferLaw` and `PinLaw` name those closure conditions; each
operation of the model is written once as a combination of smaller ones, and has the law because they do. A relation
between the states before and after (`Stays`) is one such property; a triple that speaks of the result too is another. -/

namespace Sys2Proof.Machine

/-! ## Operations as combinations -/

section Equations
variable {α : Type}

theorem attemptAll_cons (o : Op Unit) (os : List (Op Unit)) :
    attemptAll (o :: os) = withCleanup o (attemptAll os) := by
  funext s
  simp only [attemptAll, withCleanup]
  rcases o s with ⟨_ | _ | _, s1⟩ <;> dsimp only
  rcases attemptAll os s1 with ⟨_ | _ | _, s2⟩ <;> rfl

theorem readBank_eq (id : BankId) : readBank id = andThen (act (touch id)) fun _ =>
    andThen (fun s => xferW id.chip (.iodir id.bank) (allIn s.params) s) fun _ => xferR id := rfl

theorem restoreBank_eq (id : BankId) : restoreBank id = andThen (act (touch id)) fun _ s =>
    xferW id.chip (.iodir id.bank) (allIn s.params) s := rfl

theorem writeBank_eq (id : BankId) (v m : Byte) :
    writeBank id v m = fun s => andThen (act (touch id)) (fun _ =>
      match s.params.writeOrder with
      | .latchFirst => andThen (xferW id.chip (.olat id.bank) v) fun _ =>
          xferW id.chip (.iodir id.bank) (dirVal s.params m)
      | .dirFirst => andThen (xferW id.chip (.iodir id.bank) (dirVal s.params m)) fun _ =>
          xferW id.chip (.olat id.bank) v) s := by
  funext s
  simp only [writeBank]
  cases s.params.writeOrder <;> rfl

theorem assertStrobes_eq (kind : CycleKind) (m : Byte) (e : Option Event) :
    assertStrobes kind m e = fun s => andThen (act markStrobed) (fun _ =>
      match s.params.writeOrder with
      | .latchFirst => andThen (writeBank (bankOf s.params .ctrl) (ctrlValue s.params m) m) fun _ => recordWrite e
      | .dirFirst => andThen (act (touch (bankOf s.params .ctrl))) fun _ =>
          andThen (xferW (bankOf s.params .ctrl).chip (.iodir (bankOf s.params .ctrl).bank) (dirVal s.params m)) fun _ n =>
            (if kindOf n.cycle = kind then
              andThen (recordWrite e) fun _ =>
                xferW (bankOf s.params .ctrl).chip (.olat (bankOf s.params .ctrl).bank) (ctrlValue n.params m)
            else
              andThen (xferW (bankOf s.params .ctrl).chip (.olat (bankOf s.params .ctrl).bank) (ctrlValue n.params m))
                fun _ => recordWrite e) n) s := by
  funext s
  simp only [assertStrobes]
  cases s.params.writeOrder with
  | latchFirst => rfl
  | dirFirst =>
    simp only [andThen, act]
    rcases xferW (bankOf s.params .ctrl).chip (.iodir (bankOf s.params .ctrl).bank) (dirVal s.params m)
      (touch (bankOf s.params .ctrl) (markStrobed s)) with ⟨_ | _ | _, n⟩ <;> dsimp only
    split <;> rfl

theorem grabOp_eq : grabOp = fun s =>
    (match s.arb with
      | .owned => andThen (act setWarn) fun _ => act (record .warnAlreadyOwned)
      | .released => andThen (act (lineAssert .busrq)) fun _ =>
          andThen
            (onError (grabPolls s.params.grabPollLimit) fun n =>
              withCleanup (restoreBank (bankOf n.params .ctrl)) (act (lineRelease .busrq)) n)
            fun granted => if granted then act (setArb .owned)
              else andThen (act (lineRelease .busrq)) fun _ => raise .busGrantTimeout) s := by
  funext s
  unfold grabOp
  cases s.arb with
  | owned => rfl
  | released =>
    simp only [andThen, act, onError, withCleanup]
    rcases grabPolls s.params.grabPollLimit (lineAssert .busrq s) with ⟨_ | _ | _, n⟩ <;> dsimp only
    · rename_i granted; cases granted <;> rfl
    · rcases restoreBank (bankOf n.params .ctrl) n with ⟨_ | _ | _, n'⟩ <;> rfl

theorem releaseOp_eq : releaseOp = fun s =>
    andThen (act (setArb .released)) (fun _ =>
      withCleanup (attemptAll ((restoreOrder s.params).map restoreBank)) (act (lineRelease .busrq))) s := by
  funext s
  simp only [releaseOp, andThen, act, withCleanup]
  rcases attemptAll ((restoreOrder s.params).map restoreBank) (setArb .released s) with ⟨_ | _ | _, n⟩ <;> rfl

theorem takeSnapshot_eq (target : Addr) : takeSnapshot target = fun s =>
    (match s.pending with
      | some snap => act (setPending (some { snap with jumpTarget := target }))
      | none => andThen (readMemoryOp 0#16) fun b0 => andThen (readMemoryOp 1#16) fun b1 =>
          andThen (readMemoryOp 2#16) fun b2 => act (setPending (some ⟨b0, b1, b2, target⟩))) s := by
  funext s
  unfold takeSnapshot
  cases s.pending <;> rfl

theorem restoreBytes_eq : restoreBytes = fun s =>
    (match s.pending with
      | some snap => andThen (writeBytes (savedBytes snap)) fun _ => act (setPending none)
      | none => result ()) s := by
  funext s
  unfold restoreBytes
  cases s.pending <;> rfl

theorem precheck_eq (needsOwned : Bool) (o : Op α) : precheck needsOwned o = fun s =>
    (if s.configured = false then raise .notConfigured
      else if needsOwned = true ∧ s.arb = .released then raise .busNotOwned else o) s := by
  funext s
  unfold precheck
  split
  · rfl
  · split <;> rfl

end Equations

/-! ## The forward steps of the transactions -/

/-- The forward steps of `readMemory` (R232). -/
def readMemForward (p : Params) (a : Addr) : Op Byte :=
  andThen (driveBank .addrLo (addrLow a)) fun _ => andThen (driveBank .addrHi (addrHigh a)) fun _ =>
    andThen (assertStrobes .memRead (memRdMask p) none) fun _ => readDataBank (Event.memRead a)

/-- The forward steps of `writeMemory` (R233). -/
def writeMemForward (p : Params) (a : Addr) (v : Byte) : Op Unit :=
  andThen (driveBank .addrLo (addrLow a)) fun _ => andThen (driveBank .addrHi (addrHigh a)) fun _ =>
    andThen (driveBank .data v) fun _ => assertStrobes .memWrite (memWrMask p) (some (.memWrite a v))

/-- The forward steps of `readIo` (R234). -/
def readIoForward (p : Params) (port : Byte) : Op Byte :=
  andThen (driveBank .addrLo port) fun _ => andThen (assertStrobes .ioRead (ioRdMask p) none) fun _ =>
    readDataBank (Event.ioRead port)

/-- The forward steps of `writeIo` (R235). -/
def writeIoForward (p : Params) (port v : Byte) : Op Unit :=
  andThen (driveBank .addrLo port) fun _ => andThen (driveBank .data v) fun _ =>
    assertStrobes .ioWrite (ioWrMask p) (some (.ioWrite port v))

section
variable (a : Addr) (port v : Byte)

theorem readMemoryOp_eq :
    readMemoryOp a = fun s => transaction (memRdMask s.params) (readMemForward s.params a) s := rfl

theorem writeMemoryOp_eq :
    writeMemoryOp a v = fun s => transaction (memWrMask s.params) (writeMemForward s.params a v) s := rfl

theorem readIoOp_eq : readIoOp port = fun s => transaction (ioRdMask s.params) (readIoForward s.params port) s := rfl

theorem writeIoOp_eq : writeIoOp port v = fun s => transaction (ioWrMask s.params) (writeIoForward s.params port v) s := rfl

end

/-! ## Closure under the combinators -/

/-- A property of operations that the combinators keep. -/
structure OpLaw (P : (α : Type) → Op α → Prop) : Prop where
  result : ∀ {α : Type} (a : α), P α (result a)
  andThen : ∀ {α β : Type} {o : Op α} {f : α → Op β}, P α o → (∀ a, P β (f a)) → P β (andThen o f)
  onError : ∀ {α : Type} {o : Op α} {c : Op Unit}, P α o → P Unit c → P α (onError o c)
  withCleanup : ∀ {α : Type} {o : Op α} {c : Op Unit}, P α o → P Unit c → P α (withCleanup o c)
  depends : ∀ {α : Type} (f : State → Op α), (∀ m, P α (f m)) → P α fun s => f s s

/-- A law that the reading and the restoring of a bank have: a direction register is written all-input only (R168, R170). -/
structure ReadLaw (P : (α : Type) → Op α → Prop) : Prop extends OpLaw P where
  touch : ∀ id, P Unit (act (touch id))
  freshTransaction : P Unit (act freshTransaction)
  writeAllIn : ∀ id : BankId, P Unit fun s => xferW id.chip (.iodir id.bank) (allIn s.params) s
  read : ∀ id, P Byte (xferR id)

/-- A law that the transfers of a transaction have. -/
structure WriteLaw (P : (α : Type) → Op α → Prop) : Prop extends ReadLaw P where
  writeDir : ∀ c k v, P Unit (xferW c (.iodir k) v)
  writeLatch : ∀ c k v, P Unit (xferW c (.olat k) v)

/-- A law that a transaction's bookkeeping of the sequencer and of bus cycles has too. -/
structure TransferLaw (P : (α : Type) → Op α → Prop) : Prop extends WriteLaw P where
  markStrobed : P Unit (act markStrobed)
  cycle : ∀ e, isBusCycle e = true → P Unit (act (record e))

/-- A law that the pin actions on a line have. -/
structure PinLaw (P : (α : Type) → Op α → Prop) (l : Line) : Prop extends OpLaw P where
  level : ∀ v, P Unit (act (gpioWrite l v))
  dir : ∀ v, P Unit (act (gpioDir l v))
  pullUp : ∀ v, P Unit (act (gpioPullUp l v))

variable {P : (α : Type) → Op α → Prop}

theorem law_ite {α : Type} {c : Prop} [Decidable c] {o o' : Op α} (ho : P α o) (ho' : P α o') :
    P α (if c then o else o') := by
  split
  · exact ho
  · exact ho'

section Combinators
variable (h : OpLaw P)
include h

theorem OpLaw.attemptAll {os : List (Op Unit)} (ho : ∀ o ∈ os, P Unit o) : P Unit (attemptAll os) := by
  induction os with
  | nil => exact h.result ()
  | cons o os ih =>
    rw [attemptAll_cons]
    exact h.withCleanup (ho o (List.mem_cons_self ..)) (ih fun o' h' => ho o' (List.mem_cons_of_mem _ h'))

theorem OpLaw.inOrder {os : List (Op Unit)} (ho : ∀ o ∈ os, P Unit o) : P Unit (inOrder os) := by
  induction os with
  | nil => exact h.result ()
  | cons o os ih =>
    exact h.andThen (ho o (List.mem_cons_self ..)) fun _ => ih fun o' h' => ho o' (List.mem_cons_of_mem _ h')

theorem OpLaw.noData {o : Op Unit} (ho : P Unit o) : P _ (noData o) := h.andThen ho fun _ => h.result _

theorem OpLaw.inD8 {o : Op Byte} (ho : P Byte o) : P _ (inD8 o) := h.andThen ho fun _ => h.result _

theorem OpLaw.inD16 {o : Op Addr} (ho : P Addr o) : P _ (inD16 o) := h.andThen ho fun _ => h.result _

theorem OpLaw.precheck {α : Type} {o : Op α} (needsOwned : Bool) (hr : ∀ e, P α (raise e)) (ho : P α o) :
    P α (precheck needsOwned o) := by
  rw [precheck_eq]
  exact h.depends _ fun m => law_ite (hr _) (law_ite (hr _) ho)

end Combinators

/-! ## Reading and restoring banks -/

section Reading
variable (h : ReadLaw P)
include h

theorem law_readBank (id : BankId) : P Byte (readBank id) := by
  rw [readBank_eq]
  exact h.andThen (h.touch id) fun _ => h.andThen (h.writeAllIn id) fun _ => h.read id

theorem law_restoreBank (id : BankId) : P Unit (restoreBank id) := by
  rw [restoreBank_eq]
  exact h.andThen (h.touch id) fun _ => h.writeAllIn id

theorem law_restores (ids : List BankId) : P Unit (attemptAll (ids.map restoreBank)) :=
  h.attemptAll fun o ho => by
    obtain ⟨id, -, rfl⟩ := List.mem_map.1 ho
    exact law_restoreBank h id

theorem law_probeCleanup : P Unit probeCleanup :=
  h.depends (fun m => attemptAll ((touchedInOrder m).map restoreBank)) fun _ => law_restores h _

theorem law_readRawAddrOp : P Addr readRawAddrOp :=
  h.depends (fun m => andThen (act freshTransaction) fun _ =>
    onError (andThen (readBank (bankOf m.params .addrLo)) fun lo =>
      andThen (readBank (bankOf m.params .addrHi)) fun hi => result (addrOf hi lo)) probeCleanup)
    fun _ => h.andThen h.freshTransaction fun _ =>
      h.onError (h.andThen (law_readBank h _) fun _ => h.andThen (law_readBank h _) fun _ => h.result _)
        (law_probeCleanup h)

theorem law_readRawBankOp (n : SignalName) : P Byte (readRawBankOp n) :=
  h.depends (fun m => andThen (act freshTransaction) fun _ => onError (readBank (bankOf m.params n)) probeCleanup)
    fun _ => h.andThen h.freshTransaction fun _ => h.onError (law_readBank h _) (law_probeCleanup h)

theorem law_grabPolls (n : Nat) : P Bool (grabPolls n) := by
  induction n with
  | zero => exact h.result false
  | succ n ih =>
    exact h.depends (fun m => andThen (readBank (bankOf m.params .ctrl)) fun v =>
      if busakActive m.params v then result true else grabPolls n)
      fun _ => h.andThen (law_readBank h _) fun _ => law_ite (h.result true) ih

end Reading

/-! ## Transactions -/

section Writes
variable (h : WriteLaw P)
include h

theorem law_writeBank (id : BankId) (v m : Byte) : P Unit (writeBank id v m) := by
  rw [writeBank_eq]
  refine h.depends _ fun n => h.andThen (h.touch id) fun _ => ?_
  split
  · exact h.andThen (h.writeLatch _ _ _) fun _ => h.writeDir _ _ _
  · exact h.andThen (h.writeDir _ _ _) fun _ => h.writeLatch _ _ _

theorem law_deassertStrobes (m : Byte) : P Unit (deassertStrobes m) :=
  h.depends (fun n => writeBank (bankOf n.params .ctrl) (ctrlValue n.params 0#8) m) fun _ => law_writeBank h _ _ _

theorem law_transactionCleanup (m : Byte) : P Unit (transactionCleanup m) := by
  refine h.depends (fun n => attemptAll
    ((if strobedNow n then [deassertStrobes m] else []) ++ (touchedInOrder n).map restoreBank)) fun n =>
    h.attemptAll fun o ho => ?_
  rcases List.mem_append.1 ho with ho | ho
  · split at ho
    · rw [List.mem_singleton.1 ho]; exact law_deassertStrobes h m
    · cases ho
  · obtain ⟨id, -, rfl⟩ := List.mem_map.1 ho
    exact law_restoreBank h.toReadLaw id

theorem law_driveBank (n : SignalName) (v : Byte) : P Unit (driveBank n v) :=
  h.depends (fun m => writeBank (bankOf m.params n) v 0xFF#8) fun _ => law_writeBank h _ _ _

theorem law_transaction {α : Type} (m : Byte) {o : Op α} (ho : P α o) : P α (transaction m o) :=
  h.andThen h.freshTransaction fun _ => h.withCleanup ho (law_transactionCleanup h m)

theorem law_assertStrobes (kind : CycleKind) (m : Byte) {e : Option Event} (hm : P Unit (act markStrobed))
    (hrec : P Unit (recordWrite e)) : P Unit (assertStrobes kind m e) := by
  rw [assertStrobes_eq]
  refine h.depends _ fun n => h.andThen hm fun _ => ?_
  split
  · exact h.andThen (law_writeBank h _ _ _) fun _ => hrec
  · refine h.andThen (h.touch _) fun _ => h.andThen (h.writeDir _ _ _) fun _ => h.depends _ fun k => law_ite ?_ ?_
    · exact h.andThen hrec fun _ => h.writeLatch _ _ _
    · exact h.andThen (h.writeLatch _ _ _) fun _ => hrec

end Writes

section Transfers
variable (h : TransferLaw P)
include h

theorem law_recordWrite {e : Option Event} (he : ∀ x ∈ e, isBusCycle x = true) : P Unit (recordWrite e) := by
  cases e with
  | none => exact h.result ()
  | some e => exact h.cycle e (he e rfl)

theorem law_readDataBank {event : Byte → Event} (he : ∀ v, isBusCycle (event v) = true) :
    P Byte (readDataBank event) :=
  h.depends
    (fun m => andThen (readBank (bankOf m.params .data)) fun v => andThen (act (record (event v))) fun _ => result v)
    fun _ => h.andThen (law_readBank h.toReadLaw _) fun v => h.andThen (h.cycle _ (he v)) fun _ => h.result v

section
variable (p : Params) (a : Addr) (port v : Byte)

theorem law_readMemForward : P Byte (readMemForward p a) :=
  h.andThen (law_driveBank h.toWriteLaw _ _) fun _ => h.andThen (law_driveBank h.toWriteLaw _ _) fun _ =>
    h.andThen (law_assertStrobes h.toWriteLaw _ _ h.markStrobed (law_recordWrite h nofun)) fun _ => law_readDataBank h fun _ => rfl

theorem law_writeMemForward : P Unit (writeMemForward p a v) :=
  h.andThen (law_driveBank h.toWriteLaw _ _) fun _ => h.andThen (law_driveBank h.toWriteLaw _ _) fun _ =>
    h.andThen (law_driveBank h.toWriteLaw _ _) fun _ => law_assertStrobes h.toWriteLaw _ _ h.markStrobed
      (law_recordWrite h fun _ he => by cases he; rfl)

theorem law_readIoForward : P Byte (readIoForward p port) :=
  h.andThen (law_driveBank h.toWriteLaw _ _) fun _ => h.andThen (law_assertStrobes h.toWriteLaw _ _ h.markStrobed (law_recordWrite h nofun)) fun _ =>
    law_readDataBank h fun _ => rfl

theorem law_writeIoForward : P Unit (writeIoForward p port v) :=
  h.andThen (law_driveBank h.toWriteLaw _ _) fun _ => h.andThen (law_driveBank h.toWriteLaw _ _) fun _ =>
    law_assertStrobes h.toWriteLaw _ _ h.markStrobed
      (law_recordWrite h fun _ he => by cases he; rfl)

theorem law_readMemoryOp : P Byte (readMemoryOp a) :=
  h.depends (fun m => transaction (memRdMask m.params) (readMemForward m.params a)) fun m =>
    law_transaction h.toWriteLaw _ (law_readMemForward h m.params a)

theorem law_writeMemoryOp : P Unit (writeMemoryOp a v) :=
  h.depends (fun m => transaction (memWrMask m.params) (writeMemForward m.params a v)) fun m =>
    law_transaction h.toWriteLaw _ (law_writeMemForward h m.params a v)

theorem law_readIoOp : P Byte (readIoOp port) :=
  h.depends (fun m => transaction (ioRdMask m.params) (readIoForward m.params port)) fun m =>
    law_transaction h.toWriteLaw _ (law_readIoForward h m.params port)

theorem law_writeIoOp : P Unit (writeIoOp port v) :=
  h.depends (fun m => transaction (ioWrMask m.params) (writeIoForward m.params port v)) fun m =>
    law_transaction h.toWriteLaw _ (law_writeIoForward h m.params port v)

end

end Transfers

/-! ## Pins -/

section Pins
variable {l : Line} (h : PinLaw P l)
include h

theorem law_lineAssert : P Unit (act (lineAssert l)) :=
  h.depends (fun m => andThen (act (gpioWrite l (activeLevel m.params (lineSignal l)))) fun _ => act (gpioDir l .output))
    fun _ => h.andThen (h.level _) fun _ => h.dir _

theorem law_lineRelease : P Unit (act (lineRelease l)) := by
  have heq : act (lineRelease l) = fun s => (if activeLevel s.params (lineSignal l) then
      andThen (act (gpioWrite l false)) fun _ => act (gpioDir l .output) else act (gpioDir l .input)) s := by
    funext s
    simp only [act, lineRelease]
    split <;> rfl
  rw [heq]
  exact h.depends _ fun _ => law_ite (h.andThen (h.level _) fun _ => h.dir _) (h.dir _)

theorem law_configureLine : P Unit (act (configureLine l)) :=
  h.andThen (h.pullUp true) fun _ => law_lineRelease h

theorem law_pulseLine (pulse : Bool) : P Unit (act (pulseLine l pulse)) := by
  cases pulse with
  | false => exact law_lineAssert h
  | true => exact h.andThen (law_lineAssert h) fun _ => law_lineRelease h

end Pins

theorem law_setWaitOp (h : PinLaw P .wait) (active : Bool) : P Unit (setWaitOp active) := by
  cases active with
  | false => exact law_lineRelease h
  | true => exact law_lineAssert h

/-! ## Configure -/

/-- A register that `configure` writes: every one but the output latches (R167). -/
def isConfigReg : Reg → Bool
  | .olat _ => false
  | _ => true

section Configure
variable (h : ReadLaw P)
include h

theorem law_configureTransfers (hw : ∀ c r v, isConfigReg r = true → P Unit (xferW c r v)) (p : Params) :
    P Unit (inOrder (configureTransfers p)) := by
  have hreg {id : BankId} {reg : Bank → Reg} {v : Byte} (hr : isConfigReg (reg id.bank) = true) :
      P Unit (writeBankReg id reg v) := h.andThen (h.touch id) fun _ => hw _ _ _ hr
  refine h.inOrder fun o ho => ?_
  simp only [configureTransfers, List.mem_cons, List.mem_flatMap] at ho
  rcases ho with rfl | ⟨c, -, ho⟩
  · exact hw _ _ _ rfl
  · simp only [configureChip, List.mem_cons, List.not_mem_nil, or_false] at ho
    rcases ho with rfl | ho
    · exact hw _ _ _ rfl
    · rcases ho with rfl | rfl | rfl | rfl | rfl | rfl <;> exact hreg rfl

theorem law_configureLines (hp : ∀ l, PinLaw P l) (ls : List Line) : P Unit (act (configureLines ls)) := by
  induction ls with
  | nil => exact h.result ()
  | cons l ls ih => exact h.andThen (law_configureLine (hp l)) fun _ => ih

theorem law_configureOp (hw : ∀ c r v, isConfigReg r = true → P Unit (xferW c r v)) (hp : ∀ l, PinLaw P l)
    (ha : P Unit (act (setArb .released))) (hc : ∀ v, P Unit (act (setConfigured v))) : P Unit configureOp :=
  h.depends (fun m => andThen (act (setConfigured false)) fun _ => andThen (act (setArb .released)) fun _ =>
    andThen (inOrder (configureTransfers m.params)) fun _ => andThen (act (configureLines allLines)) fun _ =>
      act (setConfigured true))
    fun m => h.andThen (hc false) fun _ => h.andThen ha fun _ =>
      h.andThen (law_configureTransfers h hw m.params) fun _ =>
        h.andThen (law_configureLines h hp allLines) fun _ => hc true

end Configure

/-! ## Arbiter -/

section Arbiter
variable (h : ReadLaw P)
include h

theorem law_grabOp (hp : PinLaw P .busrq) (hw : P Unit (act setWarn)) (he : P Unit (act (record .warnAlreadyOwned)))
    (ha : P Unit (act (setArb .owned))) (hr : P Unit (raise .busGrantTimeout)) : P Unit grabOp := by
  rw [grabOp_eq]
  refine h.depends _ fun m => ?_
  split
  · exact h.andThen hw fun _ => he
  · refine h.andThen (law_lineAssert hp) fun _ => h.andThen (h.onError (law_grabPolls h _) ?_) fun granted => ?_
    · exact h.depends _ fun _ => h.withCleanup (law_restoreBank h _) (law_lineRelease hp)
    · exact law_ite ha (h.andThen (law_lineRelease hp) fun _ => hr)

theorem law_releaseOp (hp : PinLaw P .busrq) (ha : P Unit (act (setArb .released))) : P Unit releaseOp := by
  rw [releaseOp_eq]
  exact h.depends _ fun m => h.andThen ha fun _ => h.withCleanup (law_restores h _) (law_lineRelease hp)

end Arbiter

/-! ## Single step -/

section SingleStep
variable (h : ReadLaw P) (hread : ∀ a, P Byte (readMemoryOp a)) (hwrite : ∀ a v, P Unit (writeMemoryOp a v))

section
include h hread

theorem law_takeSnapshot (target : Addr) (hs : ∀ v, P Unit (act (setPending v))) : P Unit (takeSnapshot target) := by
  rw [takeSnapshot_eq]
  refine h.depends _ fun m => ?_
  split
  · exact hs _
  · exact h.andThen (hread _) fun _ => h.andThen (hread _) fun _ => h.andThen (hread _) fun _ => hs _

end

section
include h hwrite

theorem law_writeBytes (bytes : List (Addr × Byte)) : P Unit (writeBytes bytes) :=
  h.inOrder fun o ho => by
    obtain ⟨x, -, rfl⟩ := List.mem_map.1 ho
    exact hwrite _ _

theorem law_restoreBytes (hs : ∀ v, P Unit (act (setPending v))) : P Unit restoreBytes := by
  rw [restoreBytes_eq]
  refine h.depends _ fun m => ?_
  split
  · exact h.andThen (law_writeBytes h hwrite _) fun _ => hs none
  · exact h.result ()

end

section
include h

theorem law_runAndSample (hr : PinLaw P .reset) (hw : PinLaw P .wait) : P (Addr × Byte) runAndSample := by
  have hrelease : P Unit (act fun m => if m.params.ssWaitRelease then lineRelease .wait m else m) := by
    have heq : (act fun m => if m.params.ssWaitRelease then lineRelease .wait m else m) = fun s =>
        (if s.params.ssWaitRelease then act (lineRelease .wait) else result ()) s := by
      funext s
      simp only [act]
      split <;> rfl
    rw [heq]
    exact h.depends _ fun _ => law_ite (law_lineRelease hw) (h.result ())
  have hstart : P Unit (act fun m => lineAssert .wait (pulseLine .reset true m)) :=
    h.andThen (law_pulseLine hr true) fun _ => law_lineAssert hw
  unfold runAndSample
  exact h.andThen hstart fun _ => h.andThen (law_readRawAddrOp h) fun _ =>
    h.andThen (law_readRawBankOp h _) fun _ =>
    h.andThen hrelease fun _ => h.result _

end

include h hread hwrite

theorem law_singleStepOp (target : Addr) (hg : P Unit grabOp) (hl : P Unit releaseOp) (hr : PinLaw P .reset)
    (hw : PinLaw P .wait) (hs : ∀ v, P Unit (act (setPending v))) : P (Addr × Byte) (singleStepOp target) :=
  h.andThen hg fun _ =>
    h.andThen (h.onError (h.andThen (law_takeSnapshot h hread target hs) fun _ => law_writeBytes h hwrite _) hl) fun _ =>
      h.andThen hl fun _ => h.andThen (law_runAndSample h hr hw) fun _ => h.andThen hg fun _ =>
        h.andThen (h.onError (law_restoreBytes h hwrite hs) hl) fun _ => h.andThen hl fun _ => h.result _

end SingleStep

end Sys2Proof.Machine

/-! # Instructions under a law

Which primitive operations an instruction is made of, as far as the frames of the spec tell them apart, and the law of a
whole instruction from the law of those. -/

namespace Sys2Proof.Machine

/-- An instruction that reads or writes expander registers at all. -/
def mayTransfer : Instr → Bool
  | .setWait _ => false
  | .controlLine _ _ => false
  | .lineAssert _ => false
  | .lineRelease _ => false
  | _ => true

/-- An instruction that drives a bank: the transactions, `SINGLE_STEP` and `WRITE_BANK`. -/
def mayDrive : Instr → Bool
  | .readMem _ => true
  | .writeMem _ _ => true
  | .readIo _ => true
  | .writeIo _ _ => true
  | .singleStep _ => true
  | .writeBank _ _ _ _ => true
  | _ => false

/-- An instruction that may write the arbiter's state (R32). -/
def mayWriteArb : Instr → Bool
  | .configure => true
  | .grab => true
  | .release => true
  | .singleStep _ => true
  | _ => false

/-- An instruction that may write the snapshot (R33). -/
def mayWritePending : Instr → Bool
  | .singleStep _ => true
  | _ => false

/-- The body of `CONTROL_LINE`: an unknown code is found before anything else (R281, R328). -/
def controlLineBody (signal : Byte) (pulse : Bool) : Op (BitVec 16 × Byte) :=
  match controlLineOf signal with
  | some l => precheck false (noData (act (pulseLine l pulse)))
  | none => raise (.unknownSignal signal)

/-- The body of a command (R110); a micro-op has none. -/
def commandBody : Instr → Op (BitVec 16 × Byte)
  | .configure => noData configureOp
  | .grab => precheck false (noData grabOp)
  | .release => precheck false (noData releaseOp)
  | .readMem a => precheck true (inD8 (readMemoryOp a))
  | .writeMem a v => precheck true (noData (writeMemoryOp a v))
  | .readIo port => precheck true (inD8 (readIoOp port))
  | .writeIo port v => precheck true (noData (writeIoOp port v))
  | .readRawAddr => precheck false (inD16 readRawAddrOp)
  | .readRawData => precheck false (inD8 (readRawBankOp .data))
  | .readRawCtrl => precheck false (inD8 (readRawBankOp .ctrl))
  | .setWait active => precheck false (noData (setWaitOp active))
  | .singleStep target => precheck false (singleStepOp target)
  | .controlLine signal pulse => controlLineBody signal pulse
  | _ => result (0#16, 0#8)

/-- The body of a micro-op (R122); none for an absent chip or an unassigned line, and for a command. -/
def microBody (s : State) : Instr → Option (Op UopResult)
  | .readBank c k => (uopBankId s c k).map fun id => andThen (readBank id) fun v => result (.value v)
  | .writeBank c k v m => (uopBankId s c k).map fun id => andThen (writeBank id v m) fun _ => result .done
  | .restoreBank c k => (uopBankId s c k).map fun id => andThen (restoreBank id) fun _ => result .done
  | .lineAssert code => (lineOfCode code).map fun l => andThen (act (lineAssert l)) fun _ => result .done
  | .lineRelease code => (lineOfCode code).map fun l => andThen (act (lineRelease l)) fun _ => result .done
  | _ => none

theorem controlLineBody_known {signal : Byte} {l : Line} (hl : controlLineOf signal = some l) (pulse : Bool) :
    controlLineBody signal pulse = precheck false (noData (act (pulseLine l pulse))) := by
  simp only [controlLineBody, hl]

theorem controlLineBody_unknown {signal : Byte} (hl : controlLineOf signal = none) (pulse : Bool) :
    controlLineBody signal pulse = raise (.unknownSignal signal) := by
  simp only [controlLineBody, hl]

theorem exec_command {i : Instr} (hi : isCommand i = true) (s : State) : exec i s = command i (commandBody i) s := by
  cases i
  case readBank | writeBank | restoreBank | lineAssert | lineRelease => cases hi
  all_goals rfl

theorem exec_micro {i : Instr} (hi : isCommand i = false) (s : State) :
    exec i s = match microBody s i with
      | some body => microOp i body s
      | none => .refused .microOpNotGenerated := by
  cases i with
  | readBank c k => simp only [exec, execReadBank, microBody]; cases uopBankId s c k <;> rfl
  | writeBank c k v m => simp only [exec, execWriteBank, microBody]; cases uopBankId s c k <;> rfl
  | restoreBank c k => simp only [exec, execRestoreBank, microBody]; cases uopBankId s c k <;> rfl
  | lineAssert code => simp only [exec, execLineAssert, microBody]; cases lineOfCode code <;> rfl
  | lineRelease code => simp only [exec, execLineRelease, microBody]; cases lineOfCode code <;> rfl
  | _ => cases hi

/-- A micro-op that answers a next state is performed with its body. -/
theorem exec_micro_next {i : Instr} {s t : State} (hi : isCommand i = false) (h : exec i s = .next t) :
    ∃ body, microBody s i = some body ∧ microOp i body s = .next t := by
  rw [exec_micro hi] at h
  cases hb : microBody s i with
  | none => rw [hb] at h; cases h
  | some body => rw [hb] at h; exact ⟨body, rfl, h⟩

/-! ## The law of an instruction -/

/-- A law that the primitive operations of an instruction have. -/
structure InstrLaw (i : Instr) (P : (α : Type) → Op α → Prop) : Prop extends OpLaw P where
  raise : ∀ {α : Type} e, P α (raise e)
  setWarn : P Unit (act setWarn)
  warning : P Unit (act (record .warnAlreadyOwned))
  reading : mayTransfer i = true → ReadLaw P
  driving : mayDrive i = true → TransferLaw P
  write : i = .configure → ∀ c r v, isConfigReg r = true → P Unit (xferW c r v)
  pins : ∀ l, mayWriteLine i l = true → PinLaw P l
  arb : mayWriteArb i = true → ∀ v, P Unit (act (setArb v))
  configured : i = .configure → ∀ v, P Unit (act (setConfigured v))
  pending : mayWritePending i = true → ∀ v, P Unit (act (setPending v))

/-- A law that the operations of a command have, its transactions as wholes. -/
structure CommandLaw (i : Instr) (P : (α : Type) → Op α → Prop) : Prop extends OpLaw P where
  raise : ∀ {α : Type} e, P α (raise e)
  setWarn : P Unit (act setWarn)
  warning : P Unit (act (record .warnAlreadyOwned))
  reading : mayTransfer i = true → ReadLaw P
  readMemory : mayDrive i = true → ∀ a, P Byte (readMemoryOp a)
  writeMemory : mayDrive i = true → ∀ a v, P Unit (writeMemoryOp a v)
  readIo : mayDrive i = true → ∀ port, P Byte (readIoOp port)
  writeIo : mayDrive i = true → ∀ port v, P Unit (writeIoOp port v)
  write : i = .configure → ∀ c r v, isConfigReg r = true → P Unit (xferW c r v)
  pins : ∀ l, mayWriteLine i l = true → PinLaw P l
  arb : mayWriteArb i = true → ∀ v, P Unit (act (setArb v))
  configured : i = .configure → ∀ v, P Unit (act (setConfigured v))
  pending : mayWritePending i = true → ∀ v, P Unit (act (setPending v))

variable {P : (α : Type) → Op α → Prop}

theorem InstrLaw.commandLaw {i : Instr} (h : InstrLaw i P) : CommandLaw i P where
  toOpLaw := h.toOpLaw
  raise := h.raise
  setWarn := h.setWarn
  warning := h.warning
  reading := h.reading
  readMemory hd := law_readMemoryOp (h.driving hd)
  writeMemory hd := law_writeMemoryOp (h.driving hd)
  readIo hd := law_readIoOp (h.driving hd)
  writeIo hd := law_writeIoOp (h.driving hd)
  write := h.write
  pins := h.pins
  arb := h.arb
  configured := h.configured
  pending := h.pending

/-- A command's body has the law of its operations. -/
theorem law_commandBody {i : Instr} (hi : isCommand i = true) (h : CommandLaw i P) : P _ (commandBody i) := by
  have hO := h.toOpLaw
  have pre {α : Type} {o : Op α} (b : Bool) (ho : P α o) : P α (precheck b o) := hO.precheck b h.raise ho
  cases i with
  | configure =>
    change P _ (noData configureOp)
    exact hO.noData (law_configureOp (h.reading rfl) (h.write rfl) (fun l => h.pins l rfl) (h.arb rfl _) (h.configured rfl))
  | grab => exact pre _ (hO.noData (law_grabOp (h.reading rfl) (h.pins .busrq rfl) h.setWarn h.warning (h.arb rfl _) (h.raise _)))
  | release => exact pre _ (hO.noData (law_releaseOp (h.reading rfl) (h.pins .busrq rfl) (h.arb rfl _)))
  | readMem a => exact pre _ (hO.inD8 (h.readMemory rfl a))
  | writeMem a v => exact pre _ (hO.noData (h.writeMemory rfl a v))
  | readIo port => exact pre _ (hO.inD8 (h.readIo rfl port))
  | writeIo port v => exact pre _ (hO.noData (h.writeIo rfl port v))
  | readRawAddr => exact pre _ (hO.inD16 (law_readRawAddrOp (h.reading rfl)))
  | readRawData => exact pre _ (hO.inD8 (law_readRawBankOp (h.reading rfl) _))
  | readRawCtrl => exact pre _ (hO.inD8 (law_readRawBankOp (h.reading rfl) _))
  | setWait active => exact pre _ (hO.noData (law_setWaitOp (h.pins .wait rfl) active))
  | singleStep target =>
    exact pre _ (law_singleStepOp (h.reading rfl) (h.readMemory rfl) (h.writeMemory rfl) target
      (law_grabOp (h.reading rfl) (h.pins .busrq rfl) h.setWarn h.warning (h.arb rfl _) (h.raise _))
      (law_releaseOp (h.reading rfl) (h.pins .busrq rfl) (h.arb rfl _)) (h.pins .reset rfl) (h.pins .wait rfl)
      (h.pending rfl))
  | controlLine signal pulse =>
    change P _ (controlLineBody signal pulse)
    cases hl : controlLineOf signal with
    | some l =>
      rw [controlLineBody_known hl]
      exact pre _ (hO.noData (law_pulseLine (h.pins l (by simp [mayWriteLine, hl])) pulse))
    | none =>
      rw [controlLineBody_unknown hl]
      exact h.raise _
  | readBank | writeBank | restoreBank | lineAssert | lineRelease => cases hi

/-- A micro-op's body has the law of its primitive operations. -/
theorem law_microBody {i : Instr} {s : State} {body : Op UopResult} (h : InstrLaw i P) (hb : microBody s i = some body) :
    P _ body := by
  have hO := h.toOpLaw
  cases i with
  | readBank c k =>
    obtain ⟨id, -, rfl⟩ := Option.map_eq_some_iff.1 hb
    exact hO.andThen (law_readBank (h.reading rfl) id) fun _ => hO.result _
  | writeBank c k v m =>
    obtain ⟨id, -, rfl⟩ := Option.map_eq_some_iff.1 hb
    exact hO.andThen (law_writeBank (h.driving rfl).toWriteLaw id v m) fun _ => hO.result _
  | restoreBank c k =>
    obtain ⟨id, -, rfl⟩ := Option.map_eq_some_iff.1 hb
    exact hO.andThen (law_restoreBank (h.reading rfl) id) fun _ => hO.result _
  | lineAssert code =>
    obtain ⟨l, hl, rfl⟩ := Option.map_eq_some_iff.1 hb
    exact hO.andThen (law_lineAssert (h.pins l (by simp [mayWriteLine, hl]))) fun _ => hO.result _
  | lineRelease code =>
    obtain ⟨l, hl, rfl⟩ := Option.map_eq_some_iff.1 hb
    exact hO.andThen (law_lineRelease (h.pins l (by simp [mayWriteLine, hl]))) fun _ => hO.result _
  | _ => cases hb

/-! ## Relations as laws -/

/-- A preorder on states is a law. -/
theorem stays_opLaw {R : State → State → Prop} (hR : Rel R) : OpLaw fun _ o => Stays R o where
  result _ s := hR.refl s
  andThen ho hf := stays_andThen hR ho hf
  onError ho hc := stays_onError hR ho hc
  withCleanup ho hc := stays_withCleanup hR ho hc
  depends _ hf s := hf s s

/-- A relation that the updates of an instruction respect. -/
structure InstrFrame (i : Instr) (R : State → State → Prop) : Prop extends Rel R where
  sequencer : ∀ q s, R s (setSeq q s)
  event : ∀ e s, R s (record e s)
  read : mayTransfer i = true → ∀ id, Stays R (xferR id)
  writeAllIn : mayTransfer i = true → ∀ id : BankId, Stays R fun s => xferW id.chip (.iodir id.bank) (allIn s.params) s
  writeDir : mayDrive i = true → ∀ c k v, Stays R (xferW c (.iodir k) v)
  writeLatch : mayDrive i = true → ∀ c k v, Stays R (xferW c (.olat k) v)
  write : i = .configure → ∀ c r v, isConfigReg r = true → Stays R (xferW c r v)
  pins : ∀ l, mayWriteLine i l = true → PinFrame R l
  arb : mayWriteArb i = true → ∀ v s, R s (setArb v s)
  configured : i = .configure → ∀ v s, R s (setConfigured v s)
  pending : mayWritePending i = true → ∀ v s, R s (setPending v s)
  respond : isCommand i = true → ∀ w s, R s (respond w s)
  uopResult : isCommand i = false → ∀ r s, R s (setUopResult r s)

theorem mayTransfer_of_mayDrive {i : Instr} (h : mayDrive i = true) : mayTransfer i = true := by
  cases i <;> simp_all [mayDrive, mayTransfer]

section
variable {i : Instr} {R : State → State → Prop} (h : InstrFrame i R)
include h

theorem InstrFrame.modifySeq (f : Sequencer → Sequencer) (s : State) : R s (modifySeq f s) :=
  h.sequencer (s.seq.map f) s

theorem InstrFrame.instrLaw : InstrLaw i fun _ o => Stays R o := by
  have hO := stays_opLaw h.toRel
  have hread (ht : mayTransfer i = true) : ReadLaw fun _ o => Stays R o :=
    { hO with
      touch := fun _ s => h.modifySeq _ s
      freshTransaction := fun s => h.modifySeq _ s
      writeAllIn := h.writeAllIn ht
      read := h.read ht }
  exact
    { hO with
      raise := fun _ s => h.modifySeq _ s
      setWarn := fun s => h.modifySeq _ s
      warning := fun s => h.event _ s
      reading := hread
      driving := fun hd =>
        { hread (mayTransfer_of_mayDrive hd) with
          markStrobed := fun s => h.modifySeq _ s
          cycle := fun e _ s => h.event e s
          writeDir := h.writeDir hd
          writeLatch := h.writeLatch hd }
      write := h.write
      pins := fun l hl =>
        { hO with
          level := (h.pins l hl).level
          dir := (h.pins l hl).dir
          pullUp := (h.pins l hl).pullUp }
      arb := h.arb
      configured := h.configured
      pending := h.pending }

/-- An instruction relates the states before and after it when its updates do. -/
theorem exec_instrFrame {s t : State} (he : exec i s = .next t) : R s t := by
  cases hi : isCommand i with
  | true =>
    rw [exec_command hi] at he
    exact command_stays h.toRel h.sequencer (h.respond hi) (law_commandBody hi h.instrLaw.commandLaw) he
  | false =>
    obtain ⟨body, hb, hm⟩ := exec_micro_next hi he
    exact microOp_stays h.toRel h.sequencer (h.uopResult hi) (law_microBody h.instrLaw hb) hm

end

/-! ## Steps -/

/-- A relation that every instruction respects, and the taking of a word off its port, is respected by a step. -/
theorem step_stays {R : State → State → Prop} (h : CommandFrame R) (hport : ∀ c s, R s { s with cmdPort := c })
    (huop : ∀ s, R s (takeUop s)) {s t : State} (hs : step s = .next t) : R s t := by
  cases hu : s.uopPort with
  | none =>
    rcases step_commandPort_cases hu hs with rfl | ⟨i, c, -, he⟩ | ⟨w, c, rfl⟩
    · exact h.refl _
    · exact h.trans (hport c s) (exec_stays h he)
    · exact h.trans (hport c s) (h.respond _ _)
  | some w =>
    unfold step at hs
    rw [hu] at hs
    split at hs
    · cases hs
    · dsimp only at hs
      split at hs
      · exact h.trans (huop s) (exec_stays h hs)
      · cases hs

/-- Settles O54: every update of an instruction extends the history or leaves it alone. -/
theorem historyOnlyGrows : Obligations.HistoryOnlyGrows := fun _ _ h =>
  step_stays historyGrows_commandFrame (fun _ s => historyGrows_rel.refl s) (fun s => historyGrows_rel.refl s) h

/-! ## The canonical form of the memory (R80) -/

/-- The memory, where it was canonical, still is. -/
def KeepsMemoryWf (s t : State) : Prop := Memory.wf s.mem → Memory.wf t.mem

theorem keepsMemoryWf_rel : Rel KeepsMemoryWf where
  refl _ h := h
  trans h k hs := k (h hs)

theorem keepsMemoryWf_portAction {d : Draw} {f : State → State} (hf : ∀ m, (f m).mem = m.mem) (s : State) :
    KeepsMemoryWf s (portAction d f (dropDraw s)) := fun hs =>
  portAction_wf d f (dropDraw s) hf (by rwa [dropDraw_mem])

theorem keepsMemoryWf_envMove (d : Draw) (s : State) : KeepsMemoryWf s (envMove d (dropDraw s)) := fun hs =>
  envMove_wf (by rwa [dropDraw_mem]) d

theorem keepsMemoryWf_noteErr (e : Err) (s : State) : KeepsMemoryWf s (noteErr e s) := fun hs => hs

theorem keepsMemoryWf_xferW (c : ChipId) (r : Reg) (v : Byte) : Stays KeepsMemoryWf (xferW c r v) := by
  intro s
  rcases xferW_cases c r v s with ⟨-, h⟩ | ⟨x, -, h⟩ | ⟨-, h⟩ <;> rw [h]
  · exact keepsMemoryWf_portAction (fun _ => by rfl) s
  · exact keepsMemoryWf_rel.trans (keepsMemoryWf_portAction (fun _ => by rfl) s) (keepsMemoryWf_noteErr _ _)
  · exact keepsMemoryWf_envMove _ s

theorem keepsMemoryWf_xferR (id : BankId) : Stays KeepsMemoryWf (xferR id) := by
  intro s
  rcases xferR_cases id s with ⟨-, h⟩ | ⟨x, -, h⟩ | ⟨-, h⟩ <;> rw [h]
  · exact keepsMemoryWf_portAction (fun _ => by rfl) s
  · exact keepsMemoryWf_rel.trans (keepsMemoryWf_portAction (fun _ => by rfl) s) (keepsMemoryWf_noteErr _ _)
  · exact keepsMemoryWf_envMove _ s

theorem keepsMemoryWf_pinFrame (l : Line) : PinFrame KeepsMemoryWf l where
  toRel := keepsMemoryWf_rel
  level _ s := keepsMemoryWf_portAction (fun _ => by rfl) s
  dir _ s := keepsMemoryWf_portAction (fun _ => by rfl) s
  pullUp _ s := keepsMemoryWf_portAction (fun _ => by rfl) s

theorem keepsMemoryWf_commandFrame : CommandFrame KeepsMemoryWf where
  toRel := keepsMemoryWf_rel
  seq _ _ h := h
  event _ _ h := h
  write := keepsMemoryWf_xferW
  read := keepsMemoryWf_xferR
  pins := keepsMemoryWf_pinFrame
  arb _ _ h := h
  configured _ _ h := h
  pending _ _ h := h
  sequencer _ _ h := h
  respond _ _ h := h
  uopResult _ _ h := h

/-- Settles O55: only port actions reach the memory, and each of them keeps its canonical form. -/
theorem stepKeepsMemoryCanonical : Obligations.StepKeepsMemoryCanonical := fun _ _ hs h =>
  step_stays keepsMemoryWf_commandFrame (fun _ _ h => h) (fun _ h => h) h hs

end Sys2Proof.Machine

/-! # Frames of the instructions (R31 to R34, R97, R175)

A field of the state is kept by an instruction none of whose updates reaches it. -/

namespace Sys2Proof.Machine

/-! ## What a port action leaves of the block -/

/-- The block's own fields are as before, and the ports. -/
structure SameOwnFields (s t : State) : Prop where
  params : t.params = s.params
  configured : t.configured = s.configured
  arb : t.arb = s.arb
  pending : t.pending = s.pending
  lines : t.lines = s.lines
  cmdPort : t.cmdPort = s.cmdPort
  uopPort : t.uopPort = s.uopPort
  uopResult : t.uopResult = s.uopResult
  response : t.response = s.response

/-- Transfers leave the block's own fields and the ports alone (R125). -/
theorem sameOwnFields_xferW (c : ChipId) (r : Reg) (v : Byte) (s : State) : SameOwnFields s (xferW c r v s).2 := by
  rcases xferW_cases c r v s with ⟨-, h⟩ | ⟨x, -, h⟩ | ⟨-, h⟩ <;> rw [h] <;> constructor <;> simp

theorem sameOwnFields_xferR (id : BankId) (s : State) : SameOwnFields s (xferR id s).2 := by
  rcases xferR_cases id s with ⟨-, h⟩ | ⟨x, -, h⟩ | ⟨-, h⟩ <;> rw [h] <;> constructor <;> simp

/-- The block's own fields but for one discrete pin are as before, the ports and the expanders. -/
structure SameButPin (l : Line) (s t : State) : Prop where
  params : t.params = s.params
  configured : t.configured = s.configured
  arb : t.arb = s.arb
  pending : t.pending = s.pending
  lines : ∃ v, t.lines = withLine s.lines l v
  cmdPort : t.cmdPort = s.cmdPort
  uopPort : t.uopPort = s.uopPort
  uopResult : t.uopResult = s.uopResult
  response : t.response = s.response
  chips : t.chips = s.chips

theorem sameButPin_gpioWrite (l : Line) (v : Bool) (s : State) : SameButPin l s (gpioWrite l v s) := by
  constructor <;> simp [gpioWrite]

theorem sameButPin_gpioDir (l : Line) (v : Dir) (s : State) : SameButPin l s (gpioDir l v s) := by
  constructor <;> simp [gpioDir]

theorem sameButPin_gpioPullUp (l : Line) (v : Bool) (s : State) : SameButPin l s (gpioPullUp l v s) := by
  constructor <;> simp [gpioPullUp]

theorem SameButPin.otherLines {l : Line} {s t : State} (h : SameButPin l s t) : sameOtherLines l s t := by
  obtain ⟨v, hv⟩ := h.lines
  intro l' hne
  rw [hv, ofLine_withLine_of_ne _ _ hne]

/-! ## A field that an instruction keeps -/

/-- The updates of an instruction leave the value of `f` as it was. -/
structure Keeps {β : Type} (i : Instr) (f : State → β) : Prop where
  transfer : ∀ {s t}, SameOwnFields s t → f t = f s
  pin : ∀ {l s t}, mayWriteLine i l = true → SameButPin l s t → f t = f s
  sequencer : ∀ q s, f (setSeq q s) = f s
  event : ∀ e s, f (record e s) = f s
  arb : mayWriteArb i = true → ∀ v s, f (setArb v s) = f s
  configured : i = .configure → ∀ v s, f (setConfigured v s) = f s
  pending : mayWritePending i = true → ∀ v s, f (setPending v s) = f s
  respond : isCommand i = true → ∀ w s, f (respond w s) = f s
  uopResult : isCommand i = false → ∀ r s, f (setUopResult r s) = f s

theorem exec_keeps {β : Type} {i : Instr} {f : State → β} (h : Keeps i f) {s t : State} (he : exec i s = .next t) :
    f t = f s := by
  have hR : Rel fun s t => f t = f s := ⟨fun _ => rfl, fun h k => Eq.trans k h⟩
  refine exec_instrFrame (R := fun s t => f t = f s) ?_ he
  exact
    { hR with
      sequencer := h.sequencer
      event := h.event
      read := fun _ id s => h.transfer (sameOwnFields_xferR id s)
      writeAllIn := fun _ _ s => h.transfer (sameOwnFields_xferW _ _ _ s)
      writeDir := fun _ _ _ _ s => h.transfer (sameOwnFields_xferW _ _ _ s)
      writeLatch := fun _ _ _ _ s => h.transfer (sameOwnFields_xferW _ _ _ s)
      write := fun _ _ _ _ _ s => h.transfer (sameOwnFields_xferW _ _ _ s)
      pins := fun l hl =>
        { hR with
          level := fun v s => h.pin hl (sameButPin_gpioWrite l v s)
          dir := fun v s => h.pin hl (sameButPin_gpioDir l v s)
          pullUp := fun v s => h.pin hl (sameButPin_gpioPullUp l v s) }
      arb := h.arb
      configured := h.configured
      pending := h.pending
      respond := h.respond
      uopResult := h.uopResult }

section
variable {i : Instr}

theorem keeps_params : Keeps i State.params :=
  ⟨SameOwnFields.params, fun _ => SameButPin.params, fun _ _ => rfl, fun _ _ => rfl, fun _ _ _ => rfl, fun _ _ _ => rfl,
    fun _ _ _ => rfl, fun _ _ _ => rfl, fun _ _ _ => rfl⟩

theorem keeps_cmdPort : Keeps i State.cmdPort :=
  ⟨SameOwnFields.cmdPort, fun _ => SameButPin.cmdPort, fun _ _ => rfl, fun _ _ => rfl, fun _ _ _ => rfl,
    fun _ _ _ => rfl, fun _ _ _ => rfl, fun _ _ _ => rfl, fun _ _ _ => rfl⟩

theorem keeps_uopPort : Keeps i State.uopPort :=
  ⟨SameOwnFields.uopPort, fun _ => SameButPin.uopPort, fun _ _ => rfl, fun _ _ => rfl, fun _ _ _ => rfl,
    fun _ _ _ => rfl, fun _ _ _ => rfl, fun _ _ _ => rfl, fun _ _ _ => rfl⟩

theorem keeps_configured (hi : i ≠ .configure) : Keeps i State.configured :=
  ⟨SameOwnFields.configured, fun _ => SameButPin.configured, fun _ _ => rfl, fun _ _ => rfl, fun _ _ _ => rfl,
    fun hc => absurd hc hi, fun _ _ _ => rfl, fun _ _ _ => rfl, fun _ _ _ => rfl⟩

theorem keeps_pending (hi : mayWritePending i = false) : Keeps i State.pending where
  transfer := SameOwnFields.pending
  pin _ := SameButPin.pending
  sequencer _ _ := rfl
  event _ _ := rfl
  arb _ _ _ := rfl
  configured _ _ _ := rfl
  pending hp := absurd hp (by simp [hi])
  respond _ _ _ := rfl
  uopResult _ _ _ := rfl

theorem keeps_arb (hi : mayWriteArb i = false) : Keeps i State.arb where
  transfer := SameOwnFields.arb
  pin _ := SameButPin.arb
  sequencer _ _ := rfl
  event _ _ := rfl
  arb ha := absurd ha (by simp [hi])
  configured _ _ _ := rfl
  pending _ _ _ := rfl
  respond _ _ _ := rfl
  uopResult _ _ _ := rfl

theorem keeps_line {l : Line} (hi : mayWriteLine i l = false) : Keeps i fun s => ofLine s.lines l where
  transfer h := by rw [h.lines]
  pin {l' _ _} hl h := h.otherLines l fun he => by rw [← he, hi] at hl; cases hl
  sequencer _ _ := rfl
  event _ _ := rfl
  arb _ _ _ := rfl
  configured _ _ _ := rfl
  pending _ _ _ := rfl
  respond _ _ _ := rfl
  uopResult _ _ _ := rfl

theorem keeps_uopResult (hi : isCommand i = true) : Keeps i State.uopResult :=
  ⟨SameOwnFields.uopResult, fun _ => SameButPin.uopResult, fun _ _ => rfl, fun _ _ => rfl, fun _ _ _ => rfl,
    fun _ _ _ => rfl, fun _ _ _ => rfl, fun _ _ _ => rfl, fun hc => by rw [hi] at hc; cases hc⟩

theorem keeps_response (hi : isCommand i = false) : Keeps i State.response :=
  ⟨SameOwnFields.response, fun _ => SameButPin.response, fun _ _ => rfl, fun _ _ => rfl, fun _ _ _ => rfl,
    fun _ _ _ => rfl, fun _ _ _ => rfl, fun hc => absurd hc (by simp [hi]), fun _ _ _ => rfl⟩

end

theorem mayWritePending_eq_false {i : Instr} (h : ∀ target, i ≠ .singleStep target) : mayWritePending i = false := by
  cases i
  case singleStep target => exact absurd rfl (h target)
  all_goals rfl

theorem mayWriteArb_eq_false {i : Instr} (hc : i ≠ .configure) (hg : i ≠ .grab) (hr : i ≠ .release)
    (hs : ∀ target, i ≠ .singleStep target) : mayWriteArb i = false := by
  cases i
  case configure => exact absurd rfl hc
  case grab => exact absurd rfl hg
  case release => exact absurd rfl hr
  case singleStep target => exact absurd rfl (hs target)
  all_goals rfl

/-- Settles O52: each field is one that the instruction's updates keep. -/
theorem blockStateFrame : Obligations.BlockStateFrame := fun _ _ _ h =>
  ⟨exec_keeps keeps_params h, fun hi => exec_keeps (keeps_configured hi) h,
    fun hi => exec_keeps (keeps_pending (mayWritePending_eq_false hi)) h,
    fun hc hg hr hs => exec_keeps (keeps_arb (mayWriteArb_eq_false hc hg hr hs)) h,
    fun _ hl => exec_keeps (keeps_line hl) h, exec_keeps keeps_cmdPort h, exec_keeps keeps_uopPort h,
    fun hi => exec_keeps (keeps_uopResult hi) h, fun hi => exec_keeps (keeps_response hi) h⟩

/-! ## Register writes (R37, R175) -/

section Registers
variable (e : Expanders) (c : ChipId) (r : Reg) (v : Byte)

@[simp] theorem chipRegs_withChip_same (x : ChipRegs) : chipRegs (withChip e c x) c = x := by cases c <;> rfl

theorem chipRegs_withChip_of_ne {c' : ChipId} (x : ChipRegs) (h : c' ≠ c) :
    chipRegs (withChip e c x) c' = chipRegs e c' := by
  cases c <;> cases c' <;> simp_all [chipRegs, withChip]

theorem chipRegs_writeReg (p : Params) (c' : ChipId) :
    chipRegs (writeReg p e c r v) c' = if answers p e c c' then writeChip (chipRegs e c') r v else chipRegs e c' := by
  cases c' <;> rfl

theorem chipRegs_failReg (c' : ChipId) :
    chipRegs (failReg e c r v) c' = if c' = c then writeChip (chipRegs e c') r v else chipRegs e c' := by
  by_cases h : c' = c
  · subst h; simp [failReg]
  · rw [failReg, chipRegs_withChip_of_ne _ _ _ h, if_neg h]

/-- A quantity of the registers that a write into a chip keeps is kept by a write on the bus, completed or failed. -/
theorem chips_keep {β : Type} {g : ChipRegs → β} (hg : ∀ x, g (writeChip x r v) = g x) (p : Params) (c' : ChipId) :
    g (chipRegs (writeReg p e c r v) c') = g (chipRegs e c') ∧ g (chipRegs (failReg e c r v) c') = g (chipRegs e c') := by
  rw [chipRegs_writeReg, chipRegs_failReg]
  constructor
  · split
    · exact hg _
    · rfl
  · split
    · exact hg _
    · rfl

end Registers

@[simp] theorem withPort_iocon (x : ChipRegs) (k : Bank) (y : BankRegs) : (withPort x k y).iocon = x.iocon := by
  cases k <;> rfl

/-- A write into a chip changes one register of one bank, or the configuration register. -/
theorem portRegs_writeChip (x : ChipRegs) (r : Reg) (v : Byte) (k : Bank) :
    portRegs (writeChip x r v) k = match r with
      | .iodir k' => if k = k' then { portRegs x k with iodir := v } else portRegs x k
      | .ipol k' => if k = k' then { portRegs x k with ipol := v } else portRegs x k
      | .iocon => portRegs x k
      | .gppu k' => if k = k' then { portRegs x k with gppu := v } else portRegs x k
      | .olat k' => if k = k' then { portRegs x k with olat := v } else portRegs x k := by
  cases r with
  | iocon => cases k <;> rfl
  | iodir k' | ipol k' | gppu k' | olat k' => cases k <;> cases k' <;> rfl

/-- A register write keeps a quantity of the chips that a write into a chip keeps. -/
theorem xferW_chips_keep {β : Type} {g : ChipRegs → β} {r : Reg} {v : Byte} (hg : ∀ x v, g (writeChip x r v) = g x)
    (c : ChipId) (s : State) (c' : ChipId) : g (chipRegs (xferW c r v s).2.chips c') = g (chipRegs s.chips c') := by
  rcases xferW_cases c r v s with ⟨-, h⟩ | ⟨x, -, h⟩ | ⟨-, h⟩ <;> rw [h]
  · simpa using (chips_keep s.chips c r v (fun x => hg x v) s.params c').1
  · simpa using (chips_keep s.chips c r x (fun y => hg y x) s.params c').2
  · simp

theorem xferR_chips (id : BankId) (s : State) : (xferR id s).2.chips = s.chips := by
  rcases xferR_cases id s with ⟨-, h⟩ | ⟨x, -, h⟩ | ⟨-, h⟩ <;> rw [h] <;> simp

/-- The writes of an instruction leave the quantity `g` of every chip as it was. -/
structure KeepsRegs {β : Type} (i : Instr) (g : ChipRegs → β) : Prop where
  dir : mayTransfer i = true → ∀ k x v, g (writeChip x (.iodir k) v) = g x
  latch : mayDrive i = true → ∀ k x v, g (writeChip x (.olat k) v) = g x
  config : i = .configure → ∀ r, isConfigReg r = true → ∀ x v, g (writeChip x r v) = g x

theorem exec_keepsRegs {β : Type} {i : Instr} {g : ChipRegs → β} (h : KeepsRegs i g) {s t : State}
    (he : exec i s = .next t) (c : ChipId) : g (chipRegs t.chips c) = g (chipRegs s.chips c) := by
  have hR : Rel fun s t => ∀ c, g (chipRegs t.chips c) = g (chipRegs s.chips c) :=
    ⟨fun _ _ => rfl, fun h k c => (k c).trans (h c)⟩
  refine exec_instrFrame (R := fun s t => ∀ c, g (chipRegs t.chips c) = g (chipRegs s.chips c)) ?_ he c
  exact
    { hR with
      sequencer := fun _ _ _ => rfl
      event := fun _ _ _ => rfl
      read := fun _ id s c => by rw [xferR_chips]
      writeAllIn := fun ht _ s c => xferW_chips_keep (h.dir ht _) _ s c
      writeDir := fun hd _ k _ s c => xferW_chips_keep (h.dir (mayTransfer_of_mayDrive hd) k) _ s c
      writeLatch := fun hd _ k _ s c => xferW_chips_keep (h.latch hd k) _ s c
      write := fun hc _ r _ hr s c => xferW_chips_keep (h.config hc r hr) _ s c
      pins := fun l _ =>
        { hR with
          level := fun v s c => by rw [(sameButPin_gpioWrite l v s).chips]
          dir := fun v s c => by rw [(sameButPin_gpioDir l v s).chips]
          pullUp := fun v s c => by rw [(sameButPin_gpioPullUp l v s).chips] }
      arb := fun _ _ _ _ => rfl
      configured := fun _ _ _ _ => rfl
      pending := fun _ _ _ _ => rfl
      respond := fun _ _ _ _ => rfl
      uopResult := fun _ _ _ _ => rfl }

section
variable {i : Instr}

/-- A bank's register that no instruction's writes reach. -/
theorem keepsRegs_port {f : BankRegs → Byte} {k : Bank}
    (hd : mayTransfer i = true → ∀ r v, f { r with iodir := v } = f r)
    (ho : mayDrive i = true → ∀ r v, f { r with olat := v } = f r)
    (hc : i = .configure → ∀ r v, f { r with iodir := v } = f r ∧ f { r with ipol := v } = f r ∧
      f { r with gppu := v } = f r) : KeepsRegs i fun x => f (portRegs x k) := by
  have hite {c : Prop} [Decidable c] {y z : BankRegs} (hy : f y = f z) : f (if c then y else z) = f z := by
    split
    · exact hy
    · rfl
  refine ⟨fun ht k' x v => ?_, fun hd k' x v => ?_, fun hconf r hr x v => ?_⟩
  · rw [portRegs_writeChip]; exact hite (hd ht _ _)
  · rw [portRegs_writeChip]; exact hite (ho hd _ _)
  · rw [portRegs_writeChip]
    obtain ⟨h1, h2, h3⟩ := hc hconf (portRegs x k) v
    cases r with
    | iodir k' => exact hite h1
    | ipol k' => exact hite h2
    | iocon => rfl
    | gppu k' => exact hite h3
    | olat k' => cases hr

theorem keepsRegs_iocon (hi : i ≠ .configure) : KeepsRegs i ChipRegs.iocon :=
  ⟨fun _ _ _ _ => withPort_iocon .., fun _ _ _ _ => withPort_iocon .., fun hc => absurd hc hi⟩

/-- Without a transfer no register is written. -/
theorem keepsRegs_all (hi : mayTransfer i = false) : KeepsRegs i id where
  dir ht := absurd ht (by simp [hi])
  latch hd := absurd (mayTransfer_of_mayDrive hd) (by simp [hi])
  config hc := by subst hc; cases hi

end

/-- Settles O53: each register is one that the instruction's writes do not reach. -/
theorem expanderRegisterFrame : Obligations.ExpanderRegisterFrame := by
  intro i s t h
  refine ⟨fun id => ?_, fun hi => ⟨exec_keepsRegs (keepsRegs_iocon hi) h, fun id => ⟨?_, ?_⟩⟩, fun hi id => ?_, fun hi => ?_⟩
  · exact exec_keepsRegs (keepsRegs_port (f := BankRegs.gpinten) (k := id.bank) (fun _ _ _ => rfl) (fun _ _ _ => rfl)
      fun _ _ _ => ⟨rfl, rfl, rfl⟩) h id.chip
  · exact exec_keepsRegs (keepsRegs_port (f := BankRegs.ipol) (k := id.bank) (fun _ _ _ => rfl) (fun _ _ _ => rfl)
      fun hc => absurd hc hi) h id.chip
  · exact exec_keepsRegs (keepsRegs_port (f := BankRegs.gppu) (k := id.bank) (fun _ _ _ => rfl) (fun _ _ _ => rfl)
      fun hc => absurd hc hi) h id.chip
  · have hdrive : mayDrive i = false := by cases i <;> simp_all [mayDrive]
    exact exec_keepsRegs (keepsRegs_port (f := BankRegs.olat) (k := id.bank) (fun _ _ _ => rfl)
      (fun hd => absurd hd (by simp [hdrive])) fun _ _ _ => ⟨rfl, rfl, rfl⟩) h id.chip
  · have htransfer : mayTransfer i = false := by cases i <;> simp_all [mayTransfer]
    have hchip := exec_keepsRegs (keepsRegs_all htransfer) h
    obtain ⟨c0, c1, c2⟩ : t.chips.chip0 = s.chips.chip0 ∧ t.chips.chip1 = s.chips.chip1 ∧
      t.chips.chip2 = s.chips.chip2 := ⟨hchip .chip0, hchip .chip1, hchip .chip2⟩
    calc t.chips = ⟨t.chips.chip0, t.chips.chip1, t.chips.chip2⟩ := rfl
      _ = s.chips := by rw [c0, c1, c2]

end Sys2Proof.Machine

/-! # Every command ends (R110, R327)

A triple that speaks of an operation's outcome, but not of its value, is a law when outcomes compose. The outcome tells a
hang from an end: an operation hangs exactly when one of the draws it used up did, and then it leaves no response. -/

namespace Sys2Proof.Machine

/-! ## Triples on outcomes -/

/-- How an operation ended, without its value. -/
def Res.outcome {α : Type} : Res α → Res Unit
  | .ok _ => .ok ()
  | .failed e => .failed e
  | .hung => .hung

/-- The outcome of an operation that failed with `e` before its cleanup ended as `k` (R329). -/
def afterFailure (e : Err) : Res Unit → Res Unit
  | .hung => .hung
  | _ => .failed e

/-- A relation between the states before and after an operation and its outcome, which composes as outcomes do. -/
structure OutcomeRel (Q : State → Res Unit → State → Prop) : Prop where
  refl : ∀ s, Q s (.ok ()) s
  trans : ∀ {s t u k}, Q s (.ok ()) t → Q t k u → Q s k u
  cleanup : ∀ {s t u e k}, Q s (.failed e) t → Q t k u → Q s (afterFailure e k) u

/-- The operation relates the state before it, its outcome and the state after it. -/
def Has (Q : State → Res Unit → State → Prop) {α : Type} (o : Op α) : Prop := ∀ s, Q s (o s).1.outcome (o s).2

theorem has_act {Q : State → Res Unit → State → Prop} {f : State → State} (h : ∀ s, Q s (.ok ()) (f s)) :
    Has Q (act f) := h

theorem has_opLaw {Q : State → Res Unit → State → Prop} (hQ : OutcomeRel Q) : OpLaw fun _ o => Has Q o where
  result _ s := hQ.refl s
  andThen {α β o f} ho hf s := by
    have h := ho s
    unfold andThen
    generalize o s = x at h
    obtain ⟨_ | _ | _, t⟩ := x
    · exact hQ.trans h (hf _ t)
    · exact h
    · exact h
  onError {α o c} ho hc s := by
    have h := ho s
    unfold onError
    generalize o s = x at h
    obtain ⟨_ | e | _, t⟩ := x
    · exact h
    · have h' := hQ.cleanup h (hc t)
      dsimp only
      generalize c t = y at h'
      obtain ⟨_ | _ | _, u⟩ := y <;> exact h'
    · exact h
  withCleanup {α o c} ho hc s := by
    have h := ho s
    unfold withCleanup
    generalize o s = x at h
    obtain ⟨a | e | _, t⟩ := x
    · have h' := hQ.trans h (hc t)
      dsimp only
      generalize c t = y at h'
      obtain ⟨_ | _ | _, u⟩ := y <;> exact h'
    · have h' := hQ.cleanup h (hc t)
      dsimp only
      generalize c t = y at h'
      obtain ⟨_ | _ | _, u⟩ := y <;> exact h'
    · exact h
  depends _ hf s := hf s s

/-! ## The acts of port actions -/

/-- The act `f` of a port action records the event `e` and changes chips and pins at most. -/
structure ActRecords (e : State → Event) (f : State → State) : Prop where
  history : ∀ m, (f m).history = m.history ++ [e m]
  params : ∀ m, (f m).params = m.params
  configured : ∀ m, (f m).configured = m.configured
  arb : ∀ m, (f m).arb = m.arb
  pending : ∀ m, (f m).pending = m.pending
  seq : ∀ m, (f m).seq = m.seq
  cpu : ∀ m, (f m).cpu = m.cpu
  mem : ∀ m, (f m).mem = m.mem
  cycle : ∀ m, (f m).cycle = m.cycle
  response : ∀ m, (f m).response = m.response
  hung : ∀ m, (f m).hung = m.hung
  script : ∀ m, (f m).script = m.script
  draws : ∀ m, (f m).draws = m.draws

theorem actRecords_write (g : State → Expanders) (e : Event) :
    ActRecords (fun _ => e) fun m => setChips (g m) (record e m) := by constructor <;> intro m <;> rfl

theorem actRecords_read (e : Event) : ActRecords (fun _ => e) (record e) := by constructor <;> intro m <;> rfl

theorem actRecords_pin (l : Line) (g : State → LinePin) (e : State → Event) :
    ActRecords e fun m => setPin l (g m) (record (e m) m) := by constructor <;> intro m <;> rfl

/-! ## Ends and hangs -/

/-- A response (R118). -/
def isResponse : Event → Bool
  | .response _ => true
  | _ => false

theorem isResponse_of_isBusCycle {e : Event} (he : isBusCycle e = true) : isResponse e = false := by
  cases e <;> simp_all [isBusCycle, isResponse]

theorem isPortAction_of_isBusCycle {e : Event} (he : isBusCycle e = true) : isPortAction e = false := by
  cases e <;> simp_all [isBusCycle, isPortAction, isTransfer, isGpio]

theorem isFault_of_isBusCycle {e : Event} (he : isBusCycle e = true) : isFault e = false := by
  cases e <;> simp_all [isBusCycle, isFault]

/-- The draws of `t` are those of `s` that come after some of them. -/
def DrawsOn (s t : State) : Prop := ∃ n, ∀ i, drawAt t i = drawAt s (n + i)

theorem drawsOn_rel : Rel DrawsOn where
  refl _ := ⟨0, fun i => by rw [Nat.zero_add]⟩
  trans := fun ⟨n, h⟩ ⟨m, k⟩ => ⟨n + m, fun i => by rw [k, h, Nat.add_assoc]⟩

theorem drawsOn_of_dropDraw {s t : State} (hs : t.script = (dropDraw s).script) (hd : t.draws = (dropDraw s).draws) :
    DrawsOn s t :=
  ⟨1, fun i => by rw [drawAt_congr hs hd, drawAt_dropDraw, Nat.add_comm]⟩

/-- An operation has used up some draws, left the last response and the responses of the history alone and kept a command in
progress; and it hung exactly if one of the draws did. -/
structure Ends (s : State) (k : Res Unit) (t : State) : Prop where
  draws : DrawsOn s t
  seq : t.seq.isSome = s.seq.isSome
  response : t.response = s.response
  responses : t.history.filter isResponse = s.history.filter isResponse
  hung : match k with
    | .hung => t.hung = true ∧ ∃ j, (drawAt s j).xfer = .hang
    | _ => t.hung = s.hung

theorem Ends.notHung {s t : State} {k : Res Unit} (h : Ends s k t) (hk : k ≠ .hung) : t.hung = s.hung := by
  have hh := h.hung
  cases k with
  | ok _ => exact hh
  | failed _ => exact hh
  | hung => exact absurd rfl hk

theorem ends_outcomeRel : OutcomeRel Ends := by
  have comp {s t u : State} {k k' l : Res Unit} (h : Ends s k t) (hk : k ≠ .hung) (h' : Ends t k' u)
      (hl : l = .hung ↔ k' = .hung) : Ends s l u := by
    refine ⟨drawsOn_rel.trans h.draws h'.draws, h'.seq.trans h.seq, h'.response.trans h.response,
      h'.responses.trans h.responses, ?_⟩
    by_cases hh : k' = .hung
    · have hend := h'.hung
      rw [hh] at hend
      obtain ⟨hu, j, hj⟩ := hend
      obtain ⟨n, hn⟩ := h.draws
      rw [hl.2 hh]
      exact ⟨hu, n + j, by rw [← hn]; exact hj⟩
    · have hend := (h'.notHung hh).trans (h.notHung hk)
      have hl' : l ≠ .hung := fun e => hh (hl.1 e)
      cases l with
      | ok _ => exact hend
      | failed _ => exact hend
      | hung => exact absurd rfl hl'
  refine ⟨fun s => ⟨drawsOn_rel.refl s, rfl, rfl, rfl, rfl⟩, fun h h' => comp h nofun h' Iff.rfl,
    fun {_ _ _ e k} h h' => comp h nofun h' ?_⟩
  cases k <;> simp [afterFailure]

theorem filter_isResponse_contention (s : State) (d : Draw) : (contentionEvents s d).filter isResponse = [] :=
  List.filter_eq_nil_iff.2 fun e he => by
    obtain ⟨id, m, rfl⟩ := mem_contentionEvents he
    simp [isResponse]

theorem ends_portAction {d : Draw} {f : State → State} {e : State → Event} (hf : ActRecords e f)
    (he : ∀ m, isResponse (e m) = false) (s : State) : Ends s (.ok ()) (portAction d f (dropDraw s)) := by
  obtain ⟨m, hm⟩ := portAction_history d f (dropDraw s)
  refine ⟨drawsOn_of_dropDraw (by simp [hf.script]) (by simp [hf.draws]), by simp [hf.seq], by simp [hf.response], ?_,
    by simp [hf.hung]⟩
  rw [hm, hf.history]
  simp [he, filter_isResponse_contention]

theorem ends_noteErr {s t : State} (h : Ends s (.ok ()) t) (e : Err) : Ends s (.failed e) (noteErr e t) :=
  ⟨h.draws, by simpa [noteErr] using h.seq, h.response, h.responses, h.hung⟩

theorem ends_hang {s : State} (h : (drawAt s 0).xfer = .hang) :
    Ends s .hung (setHung (envMove (drawAt s 0) (dropDraw s))) :=
  ⟨drawsOn_of_dropDraw (by simp) (by simp), by simp, by simp, by simp [filter_isResponse_contention], rfl, 0, h⟩

theorem ends_xferW (c : ChipId) (r : Reg) (v : Byte) : Has Ends (xferW c r v) := by
  intro s
  rcases xferW_cases c r v s with ⟨-, h⟩ | ⟨x, -, h⟩ | ⟨hd, h⟩ <;> rw [h] <;> dsimp only [Res.outcome]
  · exact ends_portAction (actRecords_write _ _) (fun _ => rfl) s
  · exact ends_noteErr (ends_portAction (actRecords_write _ _) (fun _ => rfl) s) _
  · exact ends_hang hd

theorem ends_xferR (id : BankId) : Has Ends (xferR id) := by
  intro s
  rcases xferR_cases id s with ⟨-, h⟩ | ⟨x, -, h⟩ | ⟨hd, h⟩ <;> rw [h] <;> dsimp only [Res.outcome]
  · exact ends_portAction (actRecords_read _) (fun _ => rfl) s
  · exact ends_noteErr (ends_portAction (actRecords_read _) (fun _ => rfl) s) _
  · exact ends_hang hd

/-- A bookkeeping update neither hangs nor answers. -/
theorem ends_modifySeq (f : Sequencer → Sequencer) (s : State) : Ends s (.ok ()) (modifySeq f s) :=
  ⟨drawsOn_rel.refl s, by simp, rfl, rfl, rfl⟩

theorem ends_record {e : Event} (he : isResponse e = false) (s : State) : Ends s (.ok ()) (record e s) :=
  ⟨drawsOn_rel.refl s, rfl, rfl, by simp [he], rfl⟩

theorem ends_instrLaw (i : Instr) : InstrLaw i fun _ o => Has Ends o := by
  have hO := has_opLaw ends_outcomeRel
  have hread : ReadLaw fun _ o => Has Ends o :=
    { hO with
      touch := fun _ s => ends_modifySeq _ s
      freshTransaction := fun s => ends_modifySeq _ s
      writeAllIn := fun _ s => ends_xferW _ _ _ s
      read := ends_xferR }
  exact
    { hO with
      raise := fun e s => ends_noteErr (ends_outcomeRel.refl s) e
      setWarn := fun s => ends_modifySeq _ s
      warning := fun s => ends_record rfl s
      reading := fun _ => hread
      driving := fun _ =>
        { hread with
          markStrobed := fun s => ends_modifySeq _ s
          cycle := fun e he s => ends_record (isResponse_of_isBusCycle he) s
          writeDir := fun _ _ _ => ends_xferW _ _ _
          writeLatch := fun _ _ _ => ends_xferW _ _ _ }
      write := fun _ _ _ _ _ => ends_xferW _ _ _
      pins := fun l _ =>
        { hO with
          level := fun _ => has_act fun s => ends_portAction (actRecords_pin l _ _) (fun _ => rfl) s
          dir := fun _ => has_act fun s => ends_portAction (actRecords_pin l _ _) (fun _ => rfl) s
          pullUp := fun _ => has_act fun s => ends_portAction (actRecords_pin l _ _) (fun _ => rfl) s }
      arb := fun _ _ s => ⟨drawsOn_rel.refl s, rfl, rfl, rfl, rfl⟩
      configured := fun _ _ s => ⟨drawsOn_rel.refl s, rfl, rfl, rfl, rfl⟩
      pending := fun _ _ s => ⟨drawsOn_rel.refl s, rfl, rfl, rfl, rfl⟩ }

/-! ## Commands and runs -/

/-- A command has given its response, as its last history entry, and is over (R110). -/
structure Replied (s t : State) : Prop where
  hung : t.hung = false
  seq : t.seq = none
  last : ∃ r, t.response = some r ∧ t.history.getLast? = some (.response r)
  one : ((t.history.filter isResponse).length) = (s.history.filter isResponse).length + 1

/-- A command is held by a transfer that never completes: it has given no response and is still in progress (R327). -/
structure Stuck (s t : State) : Prop where
  hung : t.hung = true
  seq : t.seq ≠ none
  response : t.response = s.response
  none : t.history.filter isResponse = s.history.filter isResponse
  hang : ∃ k, (drawAt s k).xfer = .hang

theorem replied_respond {s m : State} {w : Reply} (hung : m.hung = false)
    (hm : m.history.filter isResponse = s.history.filter isResponse) : Replied s (respond w m) where
  hung := hung
  seq := rfl
  last := ⟨w, rfl, by simp⟩
  one := by simp [hm, List.filter_cons, isResponse]

/-- Every command replies or is stuck on a hanging draw (R110, R327). -/
theorem exec_replied_or_stuck {i : Instr} {s : State} (hi : isCommand i = true) (hreg : registryOk s.params = true)
    (hh : s.hung = false) : ∃ t, exec i s = .next t ∧ DrawsOn s t ∧ (Replied s t ∨ Stuck s t) := by
  have hbody := law_commandBody hi (ends_instrLaw i).commandLaw (setSeq (some (freshSeq i)) s)
  refine ⟨_, (exec_command hi s).trans (command_of_ok hreg), ?_⟩
  generalize commandBody i (setSeq (some (freshSeq i)) s) = out at hbody
  obtain ⟨r, m⟩ := out
  have hdraws : DrawsOn s m := hbody.draws
  cases r with
  | ok a =>
    obtain ⟨d16, d8⟩ := a
    exact ⟨hdraws, .inl (replied_respond (hbody.hung.trans hh) hbody.responses)⟩
  | failed e => exact ⟨hdraws, .inl (replied_respond (hbody.hung.trans hh) hbody.responses)⟩
  | hung =>
    obtain ⟨hm, hang⟩ := hbody.hung
    have hseq : m.seq ≠ none := Option.isSome_iff_ne_none.1 hbody.seq
    exact ⟨hdraws, .inr ⟨hm, hseq, hbody.response, hbody.responses, hang⟩⟩

theorem Stuck.noResponse {s t : State} (h : Stuck s t) (hg : HistoryGrows s t) (r : Reply) :
    Event.response r ∉ newEvents s t := by
  intro hmem
  have hnone : (newEvents s t).filter isResponse = [] := filter_newEvents hg (by rw [h.none, List.append_nil])
  exact absurd (List.filter_eq_nil_iff.1 hnone _ hmem) (by simp [isResponse])

theorem ready_iff {s : State} :
    ready s = true ↔ s.seq = none ∧ s.hung = false ∧ s.cmdPort = [] ∧ s.uopPort = none := by
  simp [ready, and_assoc]

/-- The caller's next word is answered, after which the caller may send another, or a transfer hangs (R110, R378). -/
theorem step_issue {w : Word} {s : State} (hreg : registryOk s.params = true) (hready : ready s = true) :
    (∃ t, step (issue w s) = .next t ∧ ready t = true ∧ registryOk t.params = true ∧ DrawsOn s t ∧
      (t.history.filter isResponse).length = (s.history.filter isResponse).length + 1) ∨
    ∃ k, (drawAt s k).xfer = .hang := by
  obtain ⟨hseq, hh, hport, huop⟩ := ready_iff.1 hready
  rw [issue_of_ready w hready]
  have hword : (wordBytes w : List Byte) = wordBytes w ++ [] := (List.append_nil _).symm
  cases hd : decodeCommand w with
  | rejected r =>
    refine .inl ⟨_, step_rejected hreg hh huop hseq hword hd, ?_, hreg, drawsOn_rel.refl s, by simp [answered, List.filter_cons, isResponse]⟩
    exact ready_iff.2 ⟨rfl, hh, rfl, huop⟩
  | instr i =>
    have hi := isCommand_of_decodeCommand hd
    obtain ⟨t, he, hdraws, hend⟩ := exec_replied_or_stuck (s := { s with cmdPort := [] }) hi hreg hh
    rw [step_command (s := { s with cmdPort := wordBytes w }) hh huop hseq hword hd]
    rcases hend with hr | hs
    · refine .inl ⟨t, he, ready_iff.2 ⟨hr.seq, hr.hung, ?_, ?_⟩, ?_, hdraws, hr.one⟩
      · exact exec_keeps keeps_cmdPort he
      · exact (exec_keeps keeps_uopPort he).trans huop
      · rw [exec_keeps keeps_params he]; exact hreg
    · exact .inr hs.hang

theorem run_replied (ws : List Word) {s : State} (hreg : registryOk s.params = true) (hready : ready s = true) :
    (∃ t, run ws s = .next t ∧ ready t = true ∧ HistoryGrows s t ∧
      (t.history.filter isResponse).length = (s.history.filter isResponse).length + ws.length) ∨
    ∃ k, (drawAt s k).xfer = .hang := by
  induction ws generalizing s with
  | nil => exact .inl ⟨s, rfl, hready, historyGrows_rel.refl s, rfl⟩
  | cons w ws ih =>
    rcases step_issue (w := w) hreg hready with ⟨t, hstep, htready, htreg, hdraws, hcount⟩ | hang
    · have hgrows : HistoryGrows s t := by
        have := historyOnlyGrows _ _ hstep
        rwa [issue_of_ready w hready] at this
      rcases ih htreg htready with ⟨u, hrun, huready, hug, hucount⟩ | ⟨k, hk⟩
      · refine .inl ⟨u, by simp only [run, hstep, hrun], huready, historyGrows_rel.trans hgrows hug, ?_⟩
        rw [hucount, hcount, List.length_cons]
        omega
      · obtain ⟨n, hn⟩ := hdraws
        exact .inr ⟨n + k, by rw [← hn]; exact hk⟩
    · exact .inr hang

/-- Settles O9: a command replies or is stuck, and so does each command of a run. -/
theorem commandsAnswerUnlessStuck : Obligations.CommandsAnswerUnlessStuck := by
  refine ⟨fun i s hi hreg hh => ?_, fun ws s hreg hready => ?_⟩
  · obtain ⟨t, he, -, hend⟩ := exec_replied_or_stuck hi hreg hh
    refine ⟨t, he, hend.imp (fun hr => ⟨hr.hung, hr.seq, hr.last⟩) fun hs => ?_⟩
    exact ⟨hs.hung, hs.seq, hs.response, hs.noResponse (exec_stays historyGrows_commandFrame he), hs.hang⟩
  · refine (run_replied ws hreg hready).imp (fun ⟨t, hrun, htready, hgrows, hcount⟩ => ⟨t, hrun, htready, ?_⟩) id
    obtain ⟨new, hnew⟩ := hgrows
    rw [← hnew, List.filter_append, List.length_append] at hcount
    rw [newEvents, ← hnew, List.drop_left]
    exact Nat.add_left_cancel hcount

end Sys2Proof.Machine

/-! # The first failure is the one reported (R25, R121, R328 to R330)

While a command runs, the sequencer's step index counts its port actions and its first error is the first failed transfer
among them; an operation that succeeds has added no failure. -/

namespace Sys2Proof.Machine

/-- What every update of every command respects, the updates of each instruction do. -/
theorem CommandFrame.instrFrame {R : State → State → Prop} (h : CommandFrame R) (i : Instr) : InstrFrame i R where
  toRel := h.toRel
  sequencer := h.sequencer
  event := h.event
  read _ := h.read
  writeAllIn _ _ s := h.write _ _ _ s
  writeDir _ _ _ _ := h.write _ _ _
  writeLatch _ _ _ _ := h.write _ _ _
  write _ _ _ _ _ := h.write _ _ _
  pins l _ := h.pins l
  arb _ := h.arb
  configured _ := h.configured
  pending _ := h.pending
  respond _ := h.respond
  uopResult _ := h.uopResult

/-! ## Lists of port actions -/

theorem firstFailure_append (k : Nat) (as bs : List Event) :
    firstFailure k (as ++ bs) = (firstFailure k as).or (firstFailure (k + as.length) bs) := by
  induction as generalizing k with
  | nil => simp [firstFailure]
  | cons a as ih =>
    simp only [List.cons_append, firstFailure]
    cases failedTransfer a with
    | none => rw [ih, List.length_cons, Nat.add_right_comm, Nat.add_assoc]
    | some x => rfl

theorem portActions_extend {s t u : State} (hst : HistoryGrows s t) {new : List Event}
    (hu : u.history.filter isPortAction = t.history.filter isPortAction ++ new) (htu : HistoryGrows t u) :
    portActions s u = portActions s t ++ new := by
  obtain ⟨a, ha⟩ := hst
  refine filter_newEvents (historyGrows_rel.trans ⟨a, ha⟩ htu) ?_
  rw [hu, portActions, newEvents, ← ha, List.drop_left, List.filter_append, List.append_assoc]

/-! ## Tracking -/

/-- `s` is reached from `s₀` inside a command, whose record counts the port actions since `s₀`, has the first failure among
them as its first error, and has the warn bit `w` (R35). -/
structure Tracks (w : Bool) (s₀ s : State) : Prop where
  grows : HistoryGrows s₀ s
  seq : ∃ q, s.seq = some q ∧ q.k = (portActions s₀ s).length ∧ q.firstErr = firstFailure 0 (portActions s₀ s) ∧ q.warn = w

/-- Wherever the command began: an operation that succeeds adds no failure, and after one that fails there is one. -/
def Reports (s : State) (k : Res Unit) (t : State) : Prop :=
  ∀ w s₀, Tracks w s₀ s → Tracks w s₀ t ∧
    match k with
    | .ok _ => firstFailure 0 (portActions s₀ t) = firstFailure 0 (portActions s₀ s)
    | .failed _ => firstFailure 0 (portActions s₀ t) ≠ none
    | .hung => True

theorem reports_outcomeRel : OutcomeRel Reports where
  refl _ _ _ h := ⟨h, rfl⟩
  trans h h' w s₀ hs := by
    obtain ⟨ht, hok⟩ := h w s₀ hs
    obtain ⟨hu, hk⟩ := h' w s₀ ht
    refine ⟨hu, ?_⟩
    split
    · exact hk.trans hok
    · exact hk
    · trivial
  cleanup {_ _ _ e k} h h' w s₀ hs := by
    obtain ⟨ht, hfail⟩ := h w s₀ hs
    obtain ⟨hu, hk⟩ := h' w s₀ ht
    refine ⟨hu, ?_⟩
    cases k with
    | ok _ => exact fun hn => hfail (hk.symm.trans hn)
    | failed _ => exact hk
    | hung => trivial

/-- A change of the record that leaves what the command reports alone. -/
theorem reports_modifySeq {f : Sequencer → Sequencer} (hk : ∀ q, (f q).k = q.k) (he : ∀ q, (f q).firstErr = q.firstErr)
    (hw : ∀ q, (f q).warn = q.warn) (s : State) : Reports s (.ok ()) (modifySeq f s) := by
  intro w s₀ h
  obtain ⟨q, hq, hqk, hqe, hqw⟩ := h.seq
  refine ⟨⟨h.grows, f q, by simp [hq], ?_, ?_, (hw q).trans hqw⟩, rfl⟩
  · exact (hk q).trans hqk
  · exact (he q).trans hqe

theorem reports_record {e : Event} (he : isPortAction e = false) (s : State) : Reports s (.ok ()) (record e s) := by
  intro w s₀ h
  have hacts : portActions s₀ (record e s) = portActions s₀ s := by
    have := portActions_extend (u := record e s) h.grows (new := []) (by simp [he]) (s.history.prefix_append _)
    rwa [List.append_nil] at this
  obtain ⟨q, hq, hqk, hqe, hqw⟩ := h.seq
  refine ⟨⟨historyGrows_rel.trans h.grows (s.history.prefix_append _), q, hq, ?_, ?_, hqw⟩, ?_⟩
  · rw [hacts]; exact hqk
  · rw [hacts]; exact hqe
  · rw [hacts]

/-- The port actions and the step index after one more port action. -/
theorem tracks_portAction {d : Draw} {f : State → State} {e : State → Event} (hf : ActRecords e f)
    (he : ∀ m, isPortAction (e m) = true) {w : Bool} {s₀ s : State} (h : Tracks w s₀ s) :
    HistoryGrows s₀ (portAction d f (dropDraw s)) ∧
      portActions s₀ (portAction d f (dropDraw s)) = portActions s₀ s ++ [e (envMove d (dropDraw s))] ∧
      ∃ q, (portAction d f (dropDraw s)).seq = some q ∧ q.k = (portActions s₀ s).length + 1 ∧
        q.firstErr = firstFailure 0 (portActions s₀ s) ∧ q.warn = w := by
  have hgrows : HistoryGrows s (portAction d f (dropDraw s)) :=
    historyGrows_portAction (fun m => ⟨[e m], (hf.history m).symm⟩) s
  obtain ⟨q, hq, hqk, hqe, hqw⟩ := h.seq
  refine ⟨historyGrows_rel.trans h.grows hgrows, portActions_extend h.grows ?_ hgrows, { q with k := q.k + 1 },
    by simp [hf.seq, hq], by rw [← hqk], hqe, hqw⟩
  obtain ⟨m, hm⟩ := portAction_history d f (dropDraw s)
  rw [hm, hf.history]
  simp [he]

theorem reports_portAction {d : Draw} {f : State → State} {e : State → Event} (hf : ActRecords e f)
    (he : ∀ m, isPortAction (e m) = true) (hok : ∀ m, failedTransfer (e m) = none) (s : State) :
    Reports s (.ok ()) (portAction d f (dropDraw s)) := by
  intro w s₀ h
  obtain ⟨hgrows, hacts, q, hq, hqk, hqe, hqw⟩ := tracks_portAction (d := d) hf he h
  have hff : firstFailure 0 (portActions s₀ (portAction d f (dropDraw s))) = firstFailure 0 (portActions s₀ s) := by
    rw [hacts, firstFailure_append]
    simp [firstFailure, hok]
  exact ⟨⟨hgrows, q, hq, by rw [hqk, hacts]; simp, by rw [hqe, hff], hqw⟩, hff⟩

/-- A failed transfer is noted with its index, unless an earlier one was (R329). -/
theorem reports_failure {d : Draw} {f : State → State} {e : Event} {c : ChipId} {r : Byte}
    (hf : ActRecords (fun _ => e) f) (he : isPortAction e = true) (hfail : failedTransfer e = some (c, r)) (s : State)
    (k : Err) : Reports s (.failed k) (noteErr (.transport c r (stepIndex s)) (portAction d f (dropDraw s))) := by
  intro w s₀ h
  obtain ⟨hgrows, hacts, q, hq, hqk, hqe, hqw⟩ := tracks_portAction (d := d) hf (fun _ => he) h
  have hindex : stepIndex s = (portActions s₀ s).length := by
    obtain ⟨q', hq', hk', -⟩ := h.seq
    simp only [stepIndex, hq', hk']
  have hff : firstFailure 0 (portActions s₀ (portAction d f (dropDraw s))) =
      some ((firstFailure 0 (portActions s₀ s)).getD (.transport c r (stepIndex s))) := by
    rw [hacts, firstFailure_append, hindex]
    simp only [firstFailure, hfail, Nat.zero_add]
    cases firstFailure 0 (portActions s₀ s) <;> rfl
  refine ⟨⟨hgrows, { q with firstErr := some (q.firstErr.getD (.transport c r (stepIndex s))) }, ?_, ?_, ?_, hqw⟩, ?_⟩
  · rw [noteErr, modifySeq_seq, hq]; rfl
  · change q.k = (portActions s₀ (portAction d f (dropDraw s))).length
    rw [hqk, hacts]; simp
  · change some (q.firstErr.getD _) = firstFailure 0 (portActions s₀ (portAction d f (dropDraw s)))
    rw [hqe, hff]
  · change firstFailure 0 (portActions s₀ (portAction d f (dropDraw s))) ≠ none
    rw [hff]; exact nofun

theorem reports_hang (d : Draw) (s : State) : Reports s .hung (setHung (envMove d (dropDraw s))) := by
  intro w s₀ h
  have hgrows := historyGrows_envMove d s
  have hacts : portActions s₀ (setHung (envMove d (dropDraw s))) = portActions s₀ s := by
    have := portActions_extend (u := setHung (envMove d (dropDraw s))) h.grows (new := []) (by simp) hgrows
    rwa [List.append_nil] at this
  obtain ⟨q, hq, hqk, hqe, hqw⟩ := h.seq
  refine ⟨⟨historyGrows_rel.trans h.grows hgrows, q, by simpa using hq, ?_, ?_, hqw⟩, trivial⟩
  · rw [hacts]; exact hqk
  · rw [hacts]; exact hqe

theorem reports_xferW (c : ChipId) (r : Reg) (v : Byte) : Has Reports (xferW c r v) := by
  intro s
  rcases xferW_cases c r v s with ⟨-, h⟩ | ⟨x, -, h⟩ | ⟨-, h⟩ <;> rw [h] <;> dsimp only [Res.outcome]
  · exact reports_portAction (actRecords_write _ _) (fun _ => rfl) (fun _ => rfl) s
  · exact reports_failure (actRecords_write _ _) rfl rfl s _
  · exact reports_hang _ s

theorem reports_xferR (id : BankId) : Has Reports (xferR id) := by
  intro s
  rcases xferR_cases id s with ⟨-, h⟩ | ⟨x, -, h⟩ | ⟨-, h⟩ <;> rw [h] <;> dsimp only [Res.outcome]
  · exact reports_portAction (actRecords_read _) (fun _ => rfl) (fun _ => rfl) s
  · exact reports_failure (actRecords_read _) rfl rfl s _
  · exact reports_hang _ s

theorem reports_transferLaw : TransferLaw fun _ o => Has Reports o :=
  { has_opLaw reports_outcomeRel with
    touch := fun _ => has_act fun s => by refine reports_modifySeq ?_ ?_ ?_ s <;> exact fun _ => rfl
    freshTransaction := has_act fun s => by refine reports_modifySeq ?_ ?_ ?_ s <;> exact fun _ => rfl
    markStrobed := has_act fun s => by refine reports_modifySeq ?_ ?_ ?_ s <;> exact fun _ => rfl
    writeAllIn := fun _ s => reports_xferW _ _ _ s
    read := reports_xferR
    cycle := fun e he => has_act fun s => reports_record (isPortAction_of_isBusCycle he) s
    writeDir := fun _ _ _ => reports_xferW _ _ _
    writeLatch := fun _ _ _ => reports_xferW _ _ _ }

theorem reports_pinLaw (l : Line) : PinLaw (fun _ o => Has Reports o) l :=
  { has_opLaw reports_outcomeRel with
    level := fun _ => has_act fun s => reports_portAction (actRecords_pin l _ _) (fun _ => rfl) (fun _ => rfl) s
    dir := fun _ => has_act fun s => reports_portAction (actRecords_pin l _ _) (fun _ => rfl) (fun _ => rfl) s
    pullUp := fun _ => has_act fun s => reports_portAction (actRecords_pin l _ _) (fun _ => rfl) (fun _ => rfl) s }

/-- An update that reaches neither the history nor the command's record. -/
theorem reports_update {f : State → State} (hh : ∀ s, (f s).history = s.history) (hq : ∀ s, (f s).seq = s.seq) :
    Has Reports (act f) := has_act fun s w s₀ h => by
  have hacts : portActions s₀ (f s) = portActions s₀ s := by simp only [portActions, newEvents, hh]
  refine ⟨⟨?_, ?_⟩, ?_⟩
  · simpa only [HistoryGrows, hh] using h.grows
  · simpa only [hacts, hq] using h.seq
  · rw [hacts]

theorem reports_releaseOp : Has Reports releaseOp :=
  law_releaseOp reports_transferLaw.toReadLaw (reports_pinLaw _) (reports_update (fun _ => rfl) fun _ => rfl)

theorem reports_configureOp : Has Reports configureOp :=
  law_configureOp reports_transferLaw.toReadLaw (fun _ _ _ _ => reports_xferW _ _ _) reports_pinLaw
    (reports_update (fun _ => rfl) fun _ => rfl) fun _ => reports_update (fun _ => rfl) fun _ => rfl

/-! ## Errors that are no transfer's -/

/-- The error a command has ended with is the first failed transfer, or another one if no transfer failed. -/
def EndsWithErr (s₀ t : State) : Prop :=
  ∃ q x, t.seq = some q ∧ q.firstErr = some x ∧
    (firstFailure 0 (portActions s₀ t) = some x ∨ (firstFailure 0 (portActions s₀ t) = none ∧ statusOf x ≠ 0x04#8))

/-- As `Reports`, but an operation may fail with an error of its own, after which nothing is attempted, and may warn. -/
def ReportsOrRaises (s : State) (k : Res Unit) (t : State) : Prop :=
  ∀ w s₀, Tracks w s₀ s →
    match k with
    | .ok _ => (∃ w', Tracks w' s₀ t) ∧ firstFailure 0 (portActions s₀ t) = firstFailure 0 (portActions s₀ s)
    | .failed _ => EndsWithErr s₀ t
    | .hung => True

theorem Reports.orRaises {s t : State} {k : Res Unit} (h : Reports s k t) : ReportsOrRaises s k t := by
  intro w s₀ hs
  obtain ⟨ht, hk⟩ := h w s₀ hs
  cases k with
  | ok _ => exact ⟨⟨w, ht⟩, hk⟩
  | failed e =>
    obtain ⟨q, hq, -, hqe, -⟩ := ht.seq
    obtain ⟨x, hx⟩ := Option.ne_none_iff_exists'.1 hk
    exact ⟨q, x, hq, hqe.trans hx, .inl hx⟩
  | hung => trivial

theorem Has.orRaises {α : Type} {o : Op α} (h : Has Reports o) : Has ReportsOrRaises o := fun s => (h s).orRaises

section
variable {α β : Type}

theorem orRaises_andThen {o : Op α} {f : α → Op β} (ho : Has ReportsOrRaises o) (hf : ∀ a, Has ReportsOrRaises (f a)) :
    Has ReportsOrRaises (andThen o f) := by
  intro s w s₀ hs
  have h := ho s w s₀ hs
  unfold andThen
  generalize o s = x at h
  obtain ⟨a | e | _, t⟩ := x
  · obtain ⟨⟨w', ht⟩, hok⟩ := h
    have h' := hf a t w' s₀ ht
    dsimp only
    generalize f a t = y at h'
    obtain ⟨_ | _ | _, u⟩ := y
    · exact ⟨h'.1, h'.2.trans hok⟩
    · exact h'
    · trivial
  · exact h
  · trivial

theorem orRaises_raise {e : Err} (he : statusOf e ≠ 0x04#8) : Has ReportsOrRaises (raise e : Op α) := by
  intro s w s₀ h
  obtain ⟨q, hq, -, hqe, -⟩ := h.seq
  refine ⟨{ q with firstErr := some (q.firstErr.getD e) }, q.firstErr.getD e, ?_, rfl, ?_⟩
  · rw [raise, noteErr, modifySeq_seq, hq]; rfl
  change firstFailure 0 (portActions s₀ s) = _ ∨ _
  rw [← hqe]
  cases hx : q.firstErr with
  | none => exact .inr ⟨hqe.symm.trans hx, he⟩
  | some x => exact .inl rfl

theorem orRaises_ite {c : Prop} [Decidable c] {o o' : Op α} (ho : Has ReportsOrRaises o) (ho' : Has ReportsOrRaises o') :
    Has ReportsOrRaises (if c then o else o') := law_ite (P := fun _ o => Has ReportsOrRaises o) ho ho'

theorem orRaises_precheck {o : Op α} (b : Bool) (ho : Has ReportsOrRaises o) : Has ReportsOrRaises (precheck b o) := by
  rw [precheck_eq]
  exact fun s => orRaises_ite (orRaises_raise (by decide)) (orRaises_ite (orRaises_raise (by decide)) ho) s

theorem orRaises_result (a : α) : Has ReportsOrRaises (result a) :=
  Has.orRaises ((has_opLaw reports_outcomeRel).result a)

end

/-- `grab` may time out, and warns when the bus is owned already (R202, R204). -/
theorem orRaises_grabOp : Has ReportsOrRaises grabOp := by
  have hT := reports_transferLaw.toReadLaw
  rw [grabOp_eq]
  intro s
  dsimp only
  cases s.arb with
  | owned =>
    intro w s₀ h
    obtain ⟨q, hq, hqk, hqe, -⟩ := h.seq
    have hwarn : Tracks true s₀ (setWarn s) := ⟨h.grows, { q with warn := true }, by simp [setWarn, hq], hqk, hqe, rfl⟩
    obtain ⟨ht, hok⟩ := reports_record (e := .warnAlreadyOwned) rfl (setWarn s) true s₀ hwarn
    exact ⟨⟨true, ht⟩, hok⟩
  | released =>
    have hrelease := law_lineRelease (reports_pinLaw .busrq)
    refine orRaises_andThen (law_lineAssert (reports_pinLaw .busrq)).orRaises (fun _ => ?_) s
    refine orRaises_andThen (Has.orRaises (hT.onError (law_grabPolls hT _) ?_)) fun granted => ?_
    · exact hT.depends _ fun _ => hT.withCleanup (law_restoreBank hT _) hrelease
    · exact orRaises_ite (reports_update (f := setArb .owned) (fun _ => rfl) fun _ => rfl).orRaises
        (orRaises_andThen hrelease.orRaises fun _ => orRaises_raise (by decide))

theorem orRaises_singleStepOp (target : Addr) : Has ReportsOrRaises (singleStepOp target) := by
  have hT := reports_transferLaw
  have hpending (v : Option Snapshot) : Has Reports (act (setPending v)) := reports_update (fun _ => rfl) fun _ => rfl
  have hwrite : Has Reports (onError (andThen (takeSnapshot target) fun _ => writeBytes (jumpBytes target)) releaseOp) :=
    hT.onError (hT.andThen (law_takeSnapshot hT.toReadLaw (law_readMemoryOp hT) target hpending) fun _ =>
      law_writeBytes hT.toReadLaw (law_writeMemoryOp hT) _) reports_releaseOp
  have hrestore : Has Reports (onError restoreBytes releaseOp) :=
    hT.onError (law_restoreBytes hT.toReadLaw (law_writeMemoryOp hT) hpending) reports_releaseOp
  have hrelease := reports_releaseOp.orRaises
  have hrun := (law_runAndSample hT.toReadLaw (reports_pinLaw _) (reports_pinLaw _)).orRaises
  refine orRaises_andThen orRaises_grabOp fun _ => orRaises_andThen hwrite.orRaises fun _ => ?_
  refine orRaises_andThen hrelease fun _ => orRaises_andThen hrun fun _ => ?_
  refine orRaises_andThen orRaises_grabOp fun _ => orRaises_andThen hrestore.orRaises fun _ => ?_
  exact orRaises_andThen hrelease fun _ => orRaises_result _

/-- Every command reports its first failure, or an error that stopped it. -/
theorem orRaises_commandBody {i : Instr} (hi : isCommand i = true) : Has ReportsOrRaises (commandBody i) := by
  have hT := reports_transferLaw
  have hR := hT.toReadLaw
  have hO := hR.toOpLaw
  have pre {α : Type} {o : Op α} (b : Bool) (ho : Has Reports o) := orRaises_precheck b ho.orRaises
  cases i with
  | configure => exact (hO.noData reports_configureOp).orRaises
  | grab => exact orRaises_precheck _ (orRaises_andThen orRaises_grabOp fun _ => orRaises_result _)
  | release => exact pre _ (hO.noData reports_releaseOp)
  | readMem a => exact pre _ (hO.inD8 (law_readMemoryOp hT a))
  | writeMem a v => exact pre _ (hO.noData (law_writeMemoryOp hT a v))
  | readIo port => exact pre _ (hO.inD8 (law_readIoOp hT port))
  | writeIo port v => exact pre _ (hO.noData (law_writeIoOp hT port v))
  | readRawAddr => exact pre _ (hO.inD16 (law_readRawAddrOp hR))
  | readRawData => exact pre _ (hO.inD8 (law_readRawBankOp hR _))
  | readRawCtrl => exact pre _ (hO.inD8 (law_readRawBankOp hR _))
  | setWait active => exact pre _ (hO.noData (law_setWaitOp (reports_pinLaw _) active))
  | singleStep target => exact orRaises_precheck _ (orRaises_singleStepOp target)
  | controlLine signal pulse =>
    change Has ReportsOrRaises (controlLineBody signal pulse)
    cases hl : controlLineOf signal with
    | some l => rw [controlLineBody_known hl]; exact pre _ (hO.noData (law_pulseLine (reports_pinLaw l) pulse))
    | none => rw [controlLineBody_unknown hl]; exact orRaises_raise (by simp [statusOf])
  | readBank | writeBank | restoreBank | lineAssert | lineRelease => cases hi

/-! ## Responses -/

theorem portActions_start (q : Option Sequencer) (s : State) : portActions s (setSeq q s) = [] := by
  simp [portActions, newEvents]

theorem tracks_start (i : Instr) (s : State) : Tracks false s (setSeq (some (freshSeq i)) s) where
  grows := historyGrows_rel.refl s
  seq := ⟨freshSeq i, rfl, by rw [portActions_start]; rfl, by rw [portActions_start]; rfl, rfl⟩

/-- A response is no port action. -/
theorem portActions_respond {s m : State} (h : HistoryGrows s m) (w : Reply) :
    portActions s (respond w m) = portActions s m := by
  have := portActions_extend (u := respond w m) h (new := []) (by simp [isPortAction, isTransfer, isGpio])
    (m.history.prefix_append _)
  rwa [List.append_nil] at this

theorem replyStatus_okReply_ne (w : Bool) (a : BitVec 16) (v : Byte) : replyStatus (okReply w a v) ≠ 0x04#8 := by
  rw [okReply, replyStatus_replyWord]; decide

/-- The response of a command whose body reports its failures, without the warn bit. -/
theorem command_reports {i : Instr} {body : Op (BitVec 16 × Byte)} {s t : State} {r : Res (BitVec 16 × Byte)} {m : State}
    (hbody : body (setSeq (some (freshSeq i)) s) = (r, m)) (hr : Reports (setSeq (some (freshSeq i)) s) r.outcome m)
    (hnot : r ≠ .hung) (h : command i body s = .next t) :
    (∃ a, r = .ok a ∧ t.response = some (okReply false a.1 a.2) ∧ firstFailure 0 (portActions s t) = none) ∨
    (∃ e x, r = .failed e ∧ t.response = some (errReply false x) ∧ firstFailure 0 (portActions s t) = some x) := by
  have ht := (command_next h).2
  rw [hbody] at ht
  obtain ⟨htrack, hk⟩ := hr false s (tracks_start i s)
  obtain ⟨q, hq, -, hqe, hqw⟩ := htrack.seq
  have hwarn : warnBit m = false := by simp only [warnBit, hq, hqw]
  cases r with
  | ok a =>
    obtain ⟨d16, d8⟩ := a
    subst ht
    refine .inl ⟨_, rfl, by simp [finish, hwarn], ?_⟩
    simp only [finish]
    rw [portActions_respond htrack.grows]
    exact hk.trans (by rw [portActions_start]; rfl)
  | failed e =>
    subst ht
    obtain ⟨x, hx⟩ := Option.ne_none_iff_exists'.1 hk
    refine .inr ⟨e, x, rfl, ?_, ?_⟩
    · simp only [finish, respond_response, hwarn, reportedErr, hq, hqe, hx, Option.getD_some]
    · simp only [finish]
      rw [portActions_respond htrack.grows]
      exact hx
  | hung => exact absurd rfl hnot

/-- Settles O60: the body of a command tracks its first failure, and the response is made from it. -/
theorem firstFailureIsReported : Obligations.FirstFailureIsReported := by
  intro i s t hi hh he hth
  rw [exec_command hi] at he
  have hends := law_commandBody hi (ends_instrLaw i).commandLaw (setSeq (some (freshSeq i)) s)
  have hbody := orRaises_commandBody hi (setSeq (some (freshSeq i)) s) false s (tracks_start i s)
  have hgrows : HistoryGrows s (commandBody i (setSeq (some (freshSeq i)) s)).2 := by
    exact law_commandBody hi (historyGrows_commandFrame.instrFrame i).instrLaw.commandLaw (setSeq (some (freshSeq i)) s)
  obtain ⟨-, ht⟩ := command_next he
  generalize commandBody i (setSeq (some (freshSeq i)) s) = out at *
  obtain ⟨r, m⟩ := out
  cases r with
  | ok a =>
    obtain ⟨d16, d8⟩ := a
    obtain ⟨-, hff⟩ := hbody
    subst ht
    simp only [finish, portActions_respond hgrows, respond_response]
    rw [portActions_start] at hff
    change firstFailure 0 (portActions s m) = none at hff
    rw [hff]
    exact ⟨nofun, fun _ r hr => by cases hr; exact replyStatus_okReply_ne _ _ _⟩
  | failed e =>
    obtain ⟨q, x, hq, hqe, hx⟩ := hbody
    have hreported : reportedErr e m = x := by
      change m.seq = some q at hq
      simp only [reportedErr, hq, hqe, Option.getD_some]
    change firstFailure 0 (portActions s m) = some x ∨ firstFailure 0 (portActions s m) = none ∧ _ at hx
    subst ht
    simp only [finish, portActions_respond hgrows, respond_response, hreported]
    rcases hx with hx | ⟨hnone, hstatus⟩
    · rw [hx]
      exact ⟨fun e he => by cases he; exact ⟨_, rfl⟩, nofun⟩
    · rw [hnone]
      refine ⟨nofun, fun _ r hr => ?_⟩
      cases hr
      rwa [errReply, replyStatus_replyWord]
  | hung =>
    have hm : m.hung = true := hends.hung.1
    rw [ht] at hth
    exact absurd (hm.symm.trans hth) nofun

end Sys2Proof.Machine

/-! # What operations do, action by action

A run of an operation is a list of actions: register writes and reads, completed or failed, pin actions, and bus-cycle
entries. The list determines the port actions and bus cycles that the history gains, the expander registers and the pins. -/

namespace Sys2Proof.Machine

/-! ## Actions -/

/-- One action of an operation: a port action (R6), with the value a read returned and the value a failed write left in
its register, or the entry of a bus cycle (R47). -/
inductive Action where
  | write (c : ChipId) (r : Reg) (v : Byte)
  | failWrite (c : ChipId) (r : Reg) (v x : Byte)
  | read (id : BankId) (v : Byte)
  | failRead (id : BankId)
  | level (l : Line) (v : Bool)
  | dir (l : Line) (v : Dir)
  | pullUp (l : Line) (v : Bool)
  | cycle (e : Event)

/-- The history entry of an action (R47). -/
def Action.event (p : Params) : Action → Event
  | .write c r v => .xferW c (regAddr p r) v true
  | .failWrite c r v _ => .xferW c (regAddr p r) v false
  | .read id v => .xferR id.chip (gpioAddr p id.bank) (some v)
  | .failRead id => .xferR id.chip (gpioAddr p id.bank) none
  | .level l v => .gpioW (gpioPin p l) v
  | .dir l v => .gpioDir (gpioPin p l) v
  | .pullUp l v => .gpioPU (gpioPin p l) v
  | .cycle e => e

/-- The registers after an action (R125, R175). -/
def Action.chips (p : Params) (e : Expanders) : Action → Expanders
  | .write c r v => writeReg p e c r v
  | .failWrite c r _ x => failReg e c r x
  | _ => e

/-- The pins after an action (R135). -/
def Action.lines (x : PerLine LinePin) : Action → PerLine LinePin
  | .level l v => withLine x l { ofLine x l with out := v }
  | .dir l v => withLine x l { ofLine x l with dir := v }
  | .pullUp l v => withLine x l { ofLine x l with pullUp := v }
  | _ => x

/-- An action that is a port action, with a draw of its own. -/
def Action.isPort : Action → Bool
  | .cycle _ => false
  | _ => true

/-- The entry of an action is a port action or a bus cycle, as the action says. -/
def Action.Logged : Action → Prop
  | .cycle e => isBusCycle e = true
  | _ => True

/-! ## The sequencer's record -/

/-- One port action more (R35). -/
def Sequencer.tick (q : Sequencer) : Sequencer := { q with k := q.k + 1 }

/-- A bank touched (R35). -/
def Sequencer.touch (id : BankId) (q : Sequencer) : Sequencer :=
  { q with touched := if q.touched.contains id then q.touched else q.touched ++ [id] }

/-- A transfer that failed as the next port action (R329). -/
def Sequencer.fail (c : ChipId) (r : Byte) (q : Sequencer) : Sequencer :=
  { q with k := q.k + 1, firstErr := some (q.firstErr.getD (.transport c r q.k)) }

theorem Sequencer.mem_touched_touch {id x : BankId} {q : Sequencer} :
    x ∈ (q.touch id).touched ↔ x ∈ q.touched ∨ x = id := by
  simp only [Sequencer.touch]
  split
  · rename_i h
    exact ⟨.inl, fun h' => h'.elim (fun h' => h') fun e => e ▸ List.contains_iff_mem.1 h⟩
  · simp

/-! ## Paths -/

/-- The machine around the block's bookkeeping is the same: registers, pins, CPU, memory, bus cycle, draws and faults. -/
structure SameWorld (s t : State) : Prop where
  params : t.params = s.params
  chips : t.chips = s.chips
  lines : t.lines = s.lines
  cpu : t.cpu = s.cpu
  mem : t.mem = s.mem
  cycle : t.cycle = s.cycle
  draws : ∀ i, drawAt t i = drawAt s i
  faults : t.history.filter isFault = s.history.filter isFault

theorem SameWorld.refl (s : State) : SameWorld s s := ⟨rfl, rfl, rfl, rfl, rfl, rfl, fun _ => rfl, rfl⟩

theorem SameWorld.trans {s t u : State} (h : SameWorld s t) (k : SameWorld t u) : SameWorld s u :=
  ⟨k.params.trans h.params, k.chips.trans h.chips, k.lines.trans h.lines, k.cpu.trans h.cpu, k.mem.trans h.mem,
    k.cycle.trans h.cycle, fun i => (k.draws i).trans (h.draws i), k.faults.trans h.faults⟩

theorem sameWorld_setSeq (q : Option Sequencer) (s : State) : SameWorld s (setSeq q s) :=
  ⟨rfl, rfl, rfl, rfl, rfl, rfl, fun _ => rfl, rfl⟩

theorem sameWorld_record {e : Event} (he : isFault e = false) (s : State) : SameWorld s (record e s) :=
  ⟨rfl, rfl, rfl, rfl, rfl, rfl, fun _ => rfl, by simp [he]⟩

theorem sameWorld_respond (w : Reply) (s : State) : SameWorld s (respond w s) :=
  ⟨rfl, rfl, rfl, rfl, rfl, rfl, fun _ => rfl, by simp [respond, isFault]⟩

/-- What a read returns is the byte on the pins after the environment's move (R44). -/
def Action.Reads (s : State) : Action → Prop
  | .read id v => v = gpioByte (envMove (drawAt s 0) (dropDraw s)) (drawAt s 0) id
  | _ => True

/-- One action from `s` to `t`: a port action with the environment around it, or the entry of a bus cycle. -/
def Action.Step (a : Action) (s t : State) : Prop :=
  (a.isPort = false ∧ SameWorld s t) ∨
    a.isPort = true ∧ a.Reads s ∧ ∃ f e, ActRecords e f ∧ (∀ m, isFault (e m) = false) ∧
      (∀ m, (f m).chips = a.chips m.params m.chips) ∧ (∀ m, (f m).lines = a.lines m.lines) ∧
      SameWorld (portAction (drawAt s 0) f (dropDraw s)) t

/-- The actions one after another, with the block's bookkeeping in between. -/
inductive Path : List Action → State → State → Prop
  | same {s t : State} (h : SameWorld s t) : Path [] s t
  | step {acts : List Action} {a : Action} {s m t : State} (h : Path acts s m) (ha : a.Step m t) : Path (acts ++ [a]) s t

theorem Path.single {a : Action} {s t : State} (h : a.Step s t) : Path [a] s t := Path.step (.same (.refl s)) h

theorem Action.Step.same {a : Action} {s t u : State} (h : a.Step s t) (k : SameWorld t u) : a.Step s u := by
  rcases h with ⟨hp, h⟩ | ⟨hp, hr, f, e, hf, he, hc, hl, hw⟩
  · exact .inl ⟨hp, h.trans k⟩
  · exact .inr ⟨hp, hr, f, e, hf, he, hc, hl, hw.trans k⟩

theorem Path.trans {as bs : List Action} {s t u : State} (h : Path as s t) (k : Path bs t u) : Path (as ++ bs) s u := by
  induction k with
  | same k =>
    rw [List.append_nil]
    cases h with
    | same h => exact .same (h.trans k)
    | step h ha => exact .step h (ha.same k)
  | step _ ha ih => rw [← List.append_assoc]; exact .step (ih h) ha

theorem Path.world {acts : List Action} {s t t' : State} (h : Path acts s t) (k : SameWorld t t') : Path acts s t' := by
  simpa using h.trans (.same k)

/-! ## Runs of actions -/

/-- The entries that port actions and bus cycles make. -/
def isLogged (e : Event) : Bool := isPortAction e || isBusCycle e

/-- The actions `acts` took `s` to `t`, and the sequencer's record as `f` says; nothing hung, and the rest of the block is as
before. -/
structure Did (acts : List Action) (f : Sequencer → Sequencer) (s t : State) : Prop where
  params : t.params = s.params
  hung : t.hung = s.hung
  response : t.response = s.response
  draws : ∀ i, drawAt t i = drawAt s ((acts.filter Action.isPort).length + i)
  grows : HistoryGrows s t
  log : t.history.filter isLogged = s.history.filter isLogged ++ acts.map (Action.event s.params)
  logged : ∀ a ∈ acts, a.Logged
  chips : t.chips = acts.foldl (Action.chips s.params) s.chips
  lines : t.lines = acts.foldl Action.lines s.lines
  seq : t.seq = s.seq.map f
  path : Path acts s t

theorem Did.refl (s : State) : Did [] id s s where
  params := rfl
  hung := rfl
  response := rfl
  draws i := by simp
  grows := historyGrows_rel.refl s
  log := by simp
  logged := nofun
  chips := rfl
  lines := rfl
  seq := by simp
  path := .same (.refl s)

theorem Did.trans {as bs : List Action} {f g : Sequencer → Sequencer} {s t u : State} (h : Did as f s t)
    (k : Did bs g t u) : Did (as ++ bs) (g ∘ f) s u where
  params := k.params.trans h.params
  hung := k.hung.trans h.hung
  response := k.response.trans h.response
  draws i := by rw [k.draws, h.draws, List.filter_append, List.length_append, Nat.add_assoc]
  grows := historyGrows_rel.trans h.grows k.grows
  log := by rw [k.log, h.log, h.params, List.map_append, List.append_assoc]
  logged := fun a ha => (List.mem_append.1 ha).elim (h.logged a) (k.logged a)
  chips := by rw [k.chips, h.chips, h.params, List.foldl_append]
  lines := by rw [k.lines, h.lines, List.foldl_append]
  seq := by rw [k.seq, h.seq, Option.map_map]
  path := h.path.trans k.path

theorem Did.modifySeq (f : Sequencer → Sequencer) (s : State) : Did [] f s (modifySeq f s) where
  params := rfl
  hung := rfl
  response := rfl
  draws i := by simp; rfl
  grows := historyGrows_rel.refl s
  log := by simp
  logged := nofun
  chips := rfl
  lines := rfl
  seq := rfl
  path := .same (sameWorld_setSeq _ s)

/-- An update of the block's own state alone (R31 to R33). -/
theorem Did.own {g : State → State} (hw : ∀ s, SameWorld s (g s)) (hh : ∀ s, (g s).history = s.history)
    (hq : ∀ s, (g s).seq = s.seq) (hu : ∀ s, (g s).hung = s.hung) (hr : ∀ s, (g s).response = s.response) (s : State) :
    Did [] id s (g s) where
  params := (hw s).params
  hung := hu s
  response := hr s
  draws i := by simp [(hw s).draws]
  grows := by rw [HistoryGrows, hh]
  log := by simp [hh]
  logged := nofun
  chips := (hw s).chips
  lines := (hw s).lines
  seq := by simp [hq]
  path := .same (hw s)

theorem Did.setArb (a : Arb) : ∀ s, Did [] id s (setArb a s) :=
  Did.own (fun _ => ⟨rfl, rfl, rfl, rfl, rfl, rfl, fun _ => rfl, rfl⟩) (fun _ => rfl) (fun _ => rfl) (fun _ => rfl)
    fun _ => rfl

theorem Did.setConfigured (v : Bool) : ∀ s, Did [] id s (setConfigured v s) :=
  Did.own (fun _ => ⟨rfl, rfl, rfl, rfl, rfl, rfl, fun _ => rfl, rfl⟩) (fun _ => rfl) (fun _ => rfl) (fun _ => rfl)
    fun _ => rfl

theorem Did.setPending (v : Option Snapshot) : ∀ s, Did [] id s (setPending v s) :=
  Did.own (fun _ => ⟨rfl, rfl, rfl, rfl, rfl, rfl, fun _ => rfl, rfl⟩) (fun _ => rfl) (fun _ => rfl) (fun _ => rfl)
    fun _ => rfl

theorem Did.record {e : Event} (he : isBusCycle e = true) (s : State) : Did [.cycle e] id s (record e s) where
  params := rfl
  hung := rfl
  response := rfl
  draws i := by simp [Action.isPort]; rfl
  grows := s.history.prefix_append _
  log := by simp [isLogged, he, Action.event]
  logged := by simpa [Action.Logged] using he
  chips := rfl
  lines := rfl
  seq := by simp
  path := .single (.inl ⟨rfl, sameWorld_record (isFault_of_isBusCycle he) s⟩)

/-- Transfers answered after some actions are those answered further on before them. -/
theorem Did.answered {acts : List Action} {f : Sequencer → Sequencer} {s t : State} {n : Nat} (h : Did acts f s t)
    (ha : TransfersAnswered ((acts.filter Action.isPort).length + n) s) : TransfersAnswered n t := fun i hi => by
  rw [h.draws]; exact ha _ (by omega)

/-! ## Single port actions -/

theorem contentionEvents_notLogged (s : State) (d : Draw) : (contentionEvents s d).filter isLogged = [] :=
  List.filter_eq_nil_iff.2 fun e he => by
    obtain ⟨id, m, rfl⟩ := mem_contentionEvents he
    simp [isLogged, isPortAction, isTransfer, isGpio, isBusCycle]

theorem Action.isLogged_event {p : Params} {a : Action} (h : a.Logged) : isLogged (a.event p) = true := by
  cases a
  case cycle e => exact Bool.or_eq_true_iff.2 (.inr h)
  all_goals rfl

/-- A port action does what its act does. -/
theorem did_portAction {d : Draw} {g : State → State} {a : Action} {e : State → Event} {s : State} (hg : ActRecords e g)
    (hd : d = drawAt s 0) (hport : a.isPort = true) (hevent : ∀ m, m.params = s.params → e m = a.event s.params)
    (hfault : ∀ m, isFault (e m) = false) (hreads : a.Reads s) (hchips : ∀ m, (g m).chips = a.chips m.params m.chips) (hlines : ∀ m, (g m).lines = a.lines m.lines) :
    Did [a] Sequencer.tick s (portAction d g (dropDraw s)) := by
  have hlogged : a.Logged := by cases a <;> trivial
  refine ⟨by simp [hg.params], by simp [hg.hung],
    by simp [hg.response], fun i => ?_, historyGrows_portAction (fun m => ⟨[e m], (hg.history m).symm⟩) s, ?_, ?_,
    by simp [hchips], by simp [hlines], by simp [hg.seq]; rfl, .single ?_⟩
  · subst hd; rw [drawAt_portAction _ g i (by simp [hg.script]) (by simp [hg.draws]), drawAt_dropDraw]
    simp [hport, Nat.add_comm]
  · obtain ⟨m, hm⟩ := portAction_history d g (dropDraw s)
    rw [hm, hg.history, hevent _ (by simp)]
    simp [contentionEvents_notLogged, Action.isLogged_event hlogged]
  · simpa using hlogged
  · exact .inr ⟨hport, hreads, g, e, hg, hfault, hchips, hlines, hd ▸ .refl _⟩

/-- The record of a failure is that of the failed transfer (R329). -/
theorem Did.noteErr {a : Action} {c : ChipId} {r : Byte} {s t : State} (h : Did [a] Sequencer.tick s t) :
    Did [a] (Sequencer.fail c r) s (noteErr (.transport c r (stepIndex s)) t) where
  params := h.params
  hung := h.hung
  response := h.response
  draws := h.draws
  grows := h.grows
  log := h.log
  logged := h.logged
  chips := h.chips
  lines := h.lines
  seq := by
    rw [Machine.noteErr, modifySeq_seq, h.seq]
    cases hq : s.seq with
    | none => rfl
    | some q => simp only [stepIndex, hq]; rfl
  path := h.path.world (sameWorld_setSeq _ t)

/-! ## Transfers -/

/-- A register write that is answered (R125). -/
theorem did_xferW (c : ChipId) (r : Reg) (v : Byte) {s : State} (h : (drawAt s 0).xfer = .ok) :
    ∃ t, xferW c r v s = (.ok (), t) ∧ Did [.write c r v] Sequencer.tick s t := by
  rcases xferW_cases c r v s with ⟨-, hx⟩ | ⟨x, hx, -⟩ | ⟨hx, -⟩
  · exact ⟨_, hx, did_portAction (a := .write c r v) (actRecords_write _ _) rfl rfl (fun _ _ => rfl) (fun _ => rfl) trivial (fun _ => rfl) fun _ => rfl⟩
  · rw [h] at hx; cases hx
  · rw [h] at hx; cases hx

/-- A register write that fails (R175). -/
theorem did_xferW_err (c : ChipId) (r : Reg) (v : Byte) {s : State} {x : Byte} (h : (drawAt s 0).xfer = .err x) :
    ∃ t, xferW c r v s = (.failed (.transport c (regAddr s.params r) (stepIndex s)), t) ∧
      Did [.failWrite c r v x] (Sequencer.fail c (regAddr s.params r)) s t := by
  rcases xferW_cases c r v s with ⟨hx, -⟩ | ⟨y, hy, hx⟩ | ⟨hx, -⟩
  · rw [h] at hx; cases hx
  · obtain rfl : x = y := by rw [h] at hy; cases hy; rfl
    exact ⟨_, hx, (did_portAction (a := .failWrite c r v x) (actRecords_write _ _) rfl rfl (fun _ _ => rfl) (fun _ => rfl) trivial (fun _ => rfl) fun _ => rfl).noteErr⟩
  · rw [h] at hx; cases hx

/-- A read of an input latch that is answered (R44). -/
theorem did_xferR (id : BankId) {s : State} (h : (drawAt s 0).xfer = .ok) :
    ∃ v t, xferR id s = (.ok v, t) ∧ Did [.read id v] Sequencer.tick s t := by
  rcases xferR_cases id s with ⟨-, hx⟩ | ⟨x, hx, -⟩ | ⟨hx, -⟩
  · exact ⟨_, _, hx, did_portAction (actRecords_read _) rfl rfl (fun _ _ => rfl) (fun _ => rfl) rfl (fun _ => rfl) fun _ => rfl⟩
  · rw [h] at hx; cases hx
  · rw [h] at hx; cases hx

/-- A read of an input latch that fails (R175). -/
theorem did_xferR_err (id : BankId) {s : State} {x : Byte} (h : (drawAt s 0).xfer = .err x) :
    ∃ t, xferR id s = (.failed (.transport id.chip (gpioAddr s.params id.bank) (stepIndex s)), t) ∧
      Did [.failRead id] (Sequencer.fail id.chip (gpioAddr s.params id.bank)) s t := by
  rcases xferR_cases id s with ⟨hx, -⟩ | ⟨y, hy, hx⟩ | ⟨hx, -⟩
  · rw [h] at hx; cases hx
  · exact ⟨_, hx, (did_portAction (a := .failRead id) (actRecords_read _) rfl rfl (fun _ _ => rfl) (fun _ => rfl) trivial (fun _ => rfl) fun _ => rfl).noteErr⟩
  · rw [h] at hx; cases hx

/-! ## Pins -/

theorem did_gpioWrite (l : Line) (v : Bool) (s : State) : Did [.level l v] Sequencer.tick s (gpioWrite l v s) :=
  did_portAction (actRecords_pin l _ _) rfl rfl (fun _ h => by simp only [Action.event, pinOf, h]) (fun _ => rfl) trivial
    (fun _ => rfl) fun _ => rfl

theorem did_gpioDir (l : Line) (v : Dir) (s : State) : Did [.dir l v] Sequencer.tick s (gpioDir l v s) :=
  did_portAction (actRecords_pin l _ _) rfl rfl (fun _ h => by simp only [Action.event, pinOf, h]) (fun _ => rfl) trivial
    (fun _ => rfl) fun _ => rfl

theorem did_gpioPullUp (l : Line) (v : Bool) (s : State) : Did [.pullUp l v] Sequencer.tick s (gpioPullUp l v s) :=
  did_portAction (actRecords_pin l _ _) rfl rfl (fun _ h => by simp only [Action.event, pinOf, h]) (fun _ => rfl) trivial
    (fun _ => rfl) fun _ => rfl

/-- The actions of `lineAssert` (R171). -/
def assertActs (p : Params) (l : Line) : List Action := [.level l (activeLevel p (lineSignal l)), .dir l .output]

/-- The actions of `lineRelease` (R172). -/
def releaseActs (p : Params) (l : Line) : List Action :=
  if activeLevel p (lineSignal l) then [.level l false, .dir l .output] else [.dir l .input]

/-- As many port actions counted as were performed. -/
def Sequencer.ticks (n : Nat) (q : Sequencer) : Sequencer := { q with k := q.k + n }

theorem did_lineAssert (l : Line) (s : State) :
    Did (assertActs s.params l) (Sequencer.ticks 2) s (lineAssert l s) :=
  (did_gpioWrite l (activeLevel s.params (lineSignal l)) s).trans (did_gpioDir l .output _)

theorem did_lineRelease (l : Line) (s : State) :
    Did (releaseActs s.params l) (Sequencer.ticks (releaseActs s.params l).length) s (lineRelease l s) := by
  unfold lineRelease releaseActs
  split
  · exact (did_gpioWrite l false s).trans (did_gpioDir l .output _)
  · exact did_gpioDir l .input s

/-! ## Banks -/

/-- The actions of `readBank` (R168). -/
def readBankActs (p : Params) (id : BankId) (v : Byte) : List Action :=
  [.write id.chip (.iodir id.bank) (allIn p), .read id v]

/-- The actions of `writeBank` (R169). -/
def writeBankActs (p : Params) (id : BankId) (v m : Byte) : List Action :=
  match p.writeOrder with
  | .latchFirst => [.write id.chip (.olat id.bank) v, .write id.chip (.iodir id.bank) (dirVal p m)]
  | .dirFirst => [.write id.chip (.iodir id.bank) (dirVal p m), .write id.chip (.olat id.bank) v]

/-- The action of `restoreBank` (R170). -/
def restoreActs (p : Params) (id : BankId) : List Action := [.write id.chip (.iodir id.bank) (allIn p)]

theorem did_touch (id : BankId) (s : State) : Did [] (Sequencer.touch id) s (touch id s) := Did.modifySeq _ s

theorem did_readBank (id : BankId) {s : State} (h : TransfersAnswered 2 s) :
    ∃ v t, readBank id s = (.ok v, t) ∧ Did (readBankActs s.params id v) (Sequencer.ticks 2 ∘ Sequencer.touch id) s t := by
  have h0 := did_touch id s
  obtain ⟨t1, e1, h1⟩ := did_xferW id.chip (.iodir id.bank) (allIn s.params) (h0.answered (n := 2) h 0 (by omega))
  obtain ⟨v, t2, e2, h2⟩ := did_xferR id (s := t1) ((h0.trans h1).answered (n := 1) h 0 (by omega))
  exact ⟨v, t2, by simp only [readBank, andThen, e1, e2], (h0.trans h1).trans h2⟩

theorem did_writeBank (id : BankId) (v m : Byte) {s : State} (h : TransfersAnswered 2 s) :
    ∃ t, writeBank id v m s = (.ok (), t) ∧
      Did (writeBankActs s.params id v m) (Sequencer.ticks 2 ∘ Sequencer.touch id) s t := by
  have h0 := did_touch id s
  have ok0 := h0.answered (n := 2) h 0 (by omega)
  unfold writeBank writeBankActs
  cases s.params.writeOrder with
  | latchFirst =>
    obtain ⟨t1, e1, h1⟩ := did_xferW id.chip (.olat id.bank) v ok0
    obtain ⟨t2, e2, h2⟩ := did_xferW id.chip (.iodir id.bank) (dirVal s.params m) (s := t1)
      ((h0.trans h1).answered (n := 1) h 0 (by omega))
    exact ⟨t2, by simp only [andThen, e1, e2], (h0.trans h1).trans h2⟩
  | dirFirst =>
    obtain ⟨t1, e1, h1⟩ := did_xferW id.chip (.iodir id.bank) (dirVal s.params m) ok0
    obtain ⟨t2, e2, h2⟩ := did_xferW id.chip (.olat id.bank) v (s := t1)
      ((h0.trans h1).answered (n := 1) h 0 (by omega))
    exact ⟨t2, by simp only [andThen, e1, e2], (h0.trans h1).trans h2⟩

theorem did_restoreBank (id : BankId) {s : State} (h : (drawAt s 0).xfer = .ok) :
    ∃ t, restoreBank id s = (.ok (), t) ∧ Did (restoreActs s.params id) (Sequencer.tick ∘ Sequencer.touch id) s t := by
  have h0 := did_touch id s
  obtain ⟨t1, e1, h1⟩ := did_xferW id.chip (.iodir id.bank) (allIn s.params) (s := touch id s)
    (by rw [h0.draws]; exact h)
  exact ⟨t1, e1, h0.trans h1⟩

/-! ## Traces -/

/-- The port actions among the entries of a run. -/
def portTrace (p : Params) (acts : List Action) : List Event := (acts.map (Action.event p)).filter isPortAction

/-- The bus cycles among the entries of a run. -/
def cycleTrace (p : Params) (acts : List Action) : List Event := (acts.map (Action.event p)).filter isBusCycle

section
variable (p : Params) (as bs : List Action)

@[simp] theorem portTrace_append : portTrace p (as ++ bs) = portTrace p as ++ portTrace p bs := by simp [portTrace]
@[simp] theorem cycleTrace_append : cycleTrace p (as ++ bs) = cycleTrace p as ++ cycleTrace p bs := by simp [cycleTrace]
@[simp] theorem portTrace_nil : portTrace p [] = [] := rfl
@[simp] theorem cycleTrace_nil : cycleTrace p [] = [] := rfl

@[simp] theorem portTrace_readBank (id : BankId) (v : Byte) :
    portTrace p (readBankActs p id v) = readBankTrace p id v := rfl
@[simp] theorem cycleTrace_readBank (id : BankId) (v : Byte) : cycleTrace p (readBankActs p id v) = [] := rfl
@[simp] theorem portTrace_restore (id : BankId) : portTrace p (restoreActs p id) = restoreTrace p id := rfl
@[simp] theorem cycleTrace_restore (id : BankId) : cycleTrace p (restoreActs p id) = [] := rfl
@[simp] theorem portTrace_assert (l : Line) : portTrace p (assertActs p l) = assertTrace p l := rfl
@[simp] theorem cycleTrace_assert (l : Line) : cycleTrace p (assertActs p l) = [] := rfl

@[simp] theorem portTrace_writeBank (id : BankId) (v m : Byte) :
    portTrace p (writeBankActs p id v m) = writeBankTrace p id v m := by
  unfold writeBankActs writeBankTrace
  cases p.writeOrder <;> rfl

@[simp] theorem cycleTrace_writeBank (id : BankId) (v m : Byte) : cycleTrace p (writeBankActs p id v m) = [] := by
  unfold writeBankActs
  cases p.writeOrder <;> rfl

@[simp] theorem portTrace_release (l : Line) : portTrace p (releaseActs p l) = releaseTrace p l := by
  unfold releaseActs releaseTrace
  split <;> rfl

@[simp] theorem cycleTrace_release (l : Line) : cycleTrace p (releaseActs p l) = [] := by
  unfold releaseActs
  split <;> rfl

@[simp] theorem portTrace_cycle {e : Event} (h : isPortAction e = false) : portTrace p [.cycle e] = [] := by
  simp [portTrace, Action.event, h]

@[simp] theorem cycleTrace_cycle {e : Event} (h : isBusCycle e = true) : cycleTrace p [.cycle e] = [e] := by
  simp [cycleTrace, Action.event, h]

end

/-! ## Whole instructions -/

/-- The actions `acts` took an instruction from `s` to `t`. -/
structure Performed (acts : List Action) (s t : State) : Prop where
  portActions : portActions s t = portTrace s.params acts
  busCycles : busCycles s t = cycleTrace s.params acts
  both : actionsAndCycles s t = acts.map (Action.event s.params)
  chips : t.chips = acts.foldl (Action.chips s.params) s.chips
  lines : t.lines = acts.foldl Action.lines s.lines
  hung : t.hung = s.hung
  draws : ∀ i, drawAt t i = drawAt s ((acts.filter Action.isPort).length + i)
  path : Path acts s t

theorem filter_filter_isLogged {p : Event → Bool} (hp : ∀ e, p e = true → isLogged e = true) (l : List Event) :
    (l.filter isLogged).filter p = l.filter p := by
  rw [List.filter_filter]
  refine List.filter_congr fun e _ => ?_
  cases h : p e with
  | true => simp [hp e h]
  | false => rfl

/-- The entries between two states, from those between the states of the run inside. -/
theorem Did.performed {acts : List Action} {f : Sequencer → Sequencer} {q : Option Sequencer} {s m t : State}
    (h : Did acts f (setSeq q s) m) (hh : ∃ new, t.history = m.history ++ new ∧ new.filter isLogged = [])
    (hw : SameWorld m t) (hu : t.hung = m.hung) : Performed acts s t := by
  obtain ⟨new, hnew, hquiet⟩ := hh
  have hgrows : HistoryGrows s t := historyGrows_rel.trans (b := m) h.grows ⟨new, hnew.symm⟩
  have hboth : actionsAndCycles s t = acts.map (Action.event s.params) :=
    filter_newEvents (p := isLogged) hgrows (by rw [hnew, List.filter_append, hquiet, List.append_nil]; exact h.log)
  have hsome {p : Event → Bool} (hp : ∀ e, p e = true → isLogged e = true) :
      (newEvents s t).filter p = (acts.map (Action.event s.params)).filter p := by
    rw [← filter_filter_isLogged hp, ← hboth]; rfl
  exact ⟨hsome fun e he => by simp [isLogged, he], hsome fun e he => by simp [isLogged, he], hboth,
    hw.chips.trans h.chips, hw.lines.trans h.lines, hu.trans h.hung,
    fun i => (hw.draws i).trans (h.draws i), (Path.same (sameWorld_setSeq q s)).trans (h.path.world hw)⟩

/-- A command whose body succeeds answers `OK`. -/
theorem command_did {i : Instr} {body : Op (BitVec 16 × Byte)} {s m : State} {a : BitVec 16 × Byte}
    {acts : List Action} {f : Sequencer → Sequencer} (hreg : registryOk s.params = true)
    (hbody : body (setSeq (some (freshSeq i)) s) = (.ok a, m)) (h : Did acts f (setSeq (some (freshSeq i)) s) m)
    (hwarn : (f (freshSeq i)).warn = false) :
    command i body s = .next (respond (okReply false a.1 a.2) m) ∧
      Performed acts s (respond (okReply false a.1 a.2) m) := by
  refine ⟨?_, h.performed ⟨[.response (okReply false a.1 a.2)], rfl, rfl⟩ (sameWorld_respond _ m) rfl⟩
  have hw : warnBit m = false := by simp only [warnBit, h.seq, setSeq_seq, Option.map_some, hwarn]
  rw [command_of_ok hreg, hbody, finish, hw]

/-- A micro-op whose body succeeds, inside a command or on its own, returns the body's result. -/
theorem microOp_did {i : Instr} {body : Op UopResult} {s : State} {Q : UopResult → List Action → Prop}
    (hreg : registryOk s.params = true)
    (h : ∀ q : Sequencer, ∃ v m acts f, body (setSeq (some q) s) = (.ok v, m) ∧ Did acts f (setSeq (some q) s) m ∧
      Q v acts) :
    ∃ v t acts, microOp i body s = .next t ∧ t.uopResult = some v ∧ Performed acts s t ∧ Q v acts := by
  have hdone {q q' : Option Sequencer} {v : UopResult} {m : State} {acts : List Action} {f : Sequencer → Sequencer}
      (hd : Did acts f (setSeq q s) m) : Performed acts s (setUopResult v (setSeq q' m)) :=
    hd.performed ⟨[], by simp, rfl⟩ ⟨rfl, rfl, rfl, rfl, rfl, rfl, fun _ => rfl, rfl⟩ rfl
  cases hseq : s.seq with
  | some q =>
    obtain ⟨v, m, acts, f, hb, hd, hQ⟩ := h q
    rw [← hseq] at hb hd
    have hb' : body s = (.ok v, m) := hb
    refine ⟨v, _, acts, ?_, rfl, hdone (q' := m.seq) hd, hQ⟩
    simp only [microOp, hreg, if_true, hseq, hb', uopResultOf]
    rfl
  | none =>
    obtain ⟨v, m, acts, f, hb, hd, hQ⟩ := h (freshSeq i)
    refine ⟨v, _, acts, ?_, rfl, hdone (q' := if m.hung then m.seq else none) hd, hQ⟩
    simp only [microOp, hreg, if_true, hseq, hb, uopResultOf]
    split <;> rfl

end Sys2Proof.Machine

/-! # Operations whose transfers are all answered

`Answers` says of an operation that, when the environment answers its transfers, it succeeds by a list of actions. It is
proved once for each operation, from the same for the operations it is made of. -/

namespace Sys2Proof.Machine

/-! ## Answered operations -/

/-- What a response reports from the record stays: the warn bit and the first error (R329, R332). -/
def KeepsReport (f : Sequencer → Sequencer) : Prop := ∀ q, (f q).warn = q.warn ∧ (f q).firstErr = q.firstErr

theorem KeepsReport.trans {f g : Sequencer → Sequencer} (h : KeepsReport f) (k : KeepsReport g) : KeepsReport (g ∘ f) :=
  fun q => ⟨(k _).1.trans (h q).1, (k _).2.trans (h q).2⟩

theorem keepsReport_id : KeepsReport id := fun _ => ⟨rfl, rfl⟩

/-- What the sequencer's record gains: the banks touched, and the attempt of a strobe assert (R35). -/
structure Marks (ids : List BankId) (b : Bool) (f : Sequencer → Sequencer) : Prop where
  touched : ∀ q id, id ∈ (f q).touched ↔ id ∈ q.touched ∨ id ∈ ids
  strobed : ∀ q, (f q).strobed = (q.strobed || b)
  report : KeepsReport f

theorem Marks.trans {ids ids' : List BankId} {b b' : Bool} {f g : Sequencer → Sequencer} (h : Marks ids b f)
    (k : Marks ids' b' g) : Marks (ids ++ ids') (b || b') (g ∘ f) where
  touched q id := by simp [k.touched, h.touched, or_assoc]
  strobed q := by simp [k.strobed, h.strobed, Bool.or_assoc]
  report := h.report.trans k.report

theorem marks_touch (id : BankId) (n : Nat) : Marks [id] false (Sequencer.ticks n ∘ Sequencer.touch id) where
  touched q x := by
    rw [List.mem_singleton]
    exact Sequencer.mem_touched_touch
  strobed q := by simp [Sequencer.ticks, Sequencer.touch]
  report _ := ⟨rfl, rfl⟩

/-- As many port actions as were performed. -/
def portCount (acts : List Action) : Nat := (acts.filter Action.isPort).length

@[simp] theorem portCount_append (as bs : List Action) : portCount (as ++ bs) = portCount as + portCount bs := by
  simp [portCount]

@[simp] theorem portCount_nil : portCount [] = 0 := rfl

section
variable {α β : Type} {p : Params} {r r' q n k : Nat}

/-- With the transfers among the next `r` port actions answered, `o` succeeds with `n` port actions: its result, its actions
and its change of the sequencer's record are as `Q` says. -/
def Answers (p : Params) (r n : Nat) (o : Op α) (Q : α → List Action → (Sequencer → Sequencer) → Prop) : Prop :=
  ∀ s, s.params = p → s.seq ≠ none → TransfersAnswered r s →
    ∃ v t acts f, o s = (.ok v, t) ∧ Did acts f s t ∧ portCount acts = n ∧ Q v acts f

theorem Answers.mono {o : Op α} {Q R : α → List Action → (Sequencer → Sequencer) → Prop} (h : Answers p r n o Q)
    (hQR : ∀ v acts f, Q v acts f → R v acts f) : Answers p r n o R := fun s hp hq ha => by
  obtain ⟨v, t, acts, f, e, hd, hn, hQ⟩ := h s hp hq ha
  exact ⟨v, t, acts, f, e, hd, hn, hQR v acts f hQ⟩

theorem Did.seq_ne_none {acts : List Action} {f : Sequencer → Sequencer} {s t : State} (h : Did acts f s t)
    (hs : s.seq ≠ none) : t.seq ≠ none := by
  rw [h.seq]
  exact fun e => hs (Option.map_eq_none_iff.1 e)

theorem Did.answered_of {acts : List Action} {f : Sequencer → Sequencer} {s t : State} (h : Did acts f s t)
    (hn : portCount acts = n) (ha : TransfersAnswered q s) (hr : r = 0 ∨ n + r ≤ q) : TransfersAnswered r t :=
  fun i hi => by
    rw [h.draws, show (acts.filter Action.isPort).length = n from hn]
    exact ha _ (by omega)

/-- An operation and then another one, from the runs of each. -/
theorem answers_andThen {o : Op α} {g : α → Op β} {Q : α → List Action → (Sequencer → Sequencer) → Prop}
    {R : α → β → List Action → (Sequencer → Sequencer) → Prop} (ho : Answers p r n o Q)
    (hg : ∀ v, Answers p r' k (g v) (R v)) (hr : r ≤ q) (hr' : r' = 0 ∨ n + r' ≤ q) :
    Answers p q (n + k) (andThen o g) fun w acts f =>
      ∃ v as bs a b, acts = as ++ bs ∧ f = b ∘ a ∧ Q v as a ∧ R v w bs b := fun s hp hq ha => by
  obtain ⟨v, m, as, a, e, hd, hn, hQ⟩ := ho s hp hq fun i hi => ha i (by omega)
  obtain ⟨w, t, bs, b, e', hd', hk, hR⟩ := hg v m (hd.params.trans hp) (hd.seq_ne_none hq)
    (hd.answered_of hn ha hr')
  exact ⟨w, t, as ++ bs, b ∘ a, by simp only [andThen, e, e'], hd.trans hd', by rw [portCount_append, hn, hk], v, as, bs,
    a, b, rfl, rfl, hQ, hR⟩

/-- A cleanup that succeeds too. -/
theorem answers_withCleanup {o : Op α} {c : Op Unit} {Q : α → List Action → (Sequencer → Sequencer) → Prop}
    {R : List Action → (Sequencer → Sequencer) → Prop} (ho : Answers p r n o Q)
    (hc : Answers p r' k c fun _ => R) (hr : r ≤ q) (hr' : r' = 0 ∨ n + r' ≤ q) :
    Answers p q (n + k) (withCleanup o c) fun v acts f =>
      ∃ as bs a b, acts = as ++ bs ∧ f = b ∘ a ∧ Q v as a ∧ R bs b := fun s hp hq ha => by
  obtain ⟨v, m, as, a, e, hd, hn, hQ⟩ := ho s hp hq fun i hi => ha i (by omega)
  obtain ⟨w, t, bs, b, e', hd', hk, hR⟩ := hc m (hd.params.trans hp) (hd.seq_ne_none hq)
    (hd.answered_of hn ha hr')
  exact ⟨v, t, as ++ bs, b ∘ a, by simp only [withCleanup, e, e'], hd.trans hd', by rw [portCount_append, hn, hk], as, bs,
    a, b, rfl, rfl, hQ, hR⟩

/-- A cleanup for errors does not run. -/
theorem answers_onError {o : Op α} {c : Op Unit} {Q : α → List Action → (Sequencer → Sequencer) → Prop}
    (ho : Answers p r n o Q) : Answers p r n (onError o c) Q := fun s hp hq ha => by
  obtain ⟨v, m, as, a, e, h⟩ := ho s hp hq ha
  exact ⟨v, m, as, a, by simp only [onError, e], h⟩

/-- A result made from another one. -/
theorem answers_map {o : Op α} {Q : α → List Action → (Sequencer → Sequencer) → Prop} (g : α → β)
    (ho : Answers p r n o Q) :
    Answers p r n (andThen o fun v => result (g v)) fun w acts f => ∃ v, w = g v ∧ Q v acts f := fun s hp hq ha => by
  obtain ⟨v, m, as, a, e, hd, hn, hQ⟩ := ho s hp hq ha
  exact ⟨g v, m, as, a, by simp only [andThen, e, result], hd, hn, v, rfl, hQ⟩

/-- An operation that is fixed by the state it begins in. -/
theorem answers_depends {f : State → Op α} {Q : α → List Action → (Sequencer → Sequencer) → Prop}
    (h : ∀ m, m.params = p → Answers p r n (f m) Q) : Answers p r n (fun s => f s s) Q := fun s hp hq ha => h s hp s hp hq ha

/-- A bookkeeping update. -/
theorem answers_modifySeq (g : Sequencer → Sequencer) :
    Answers p 0 0 (act (modifySeq g)) fun _ acts f => acts = [] ∧ f = g := fun s _ _ _ =>
  ⟨(), _, [], g, rfl, Did.modifySeq g s, rfl, rfl, rfl⟩

end

/-! ## Banks -/

section
variable {p : Params}

theorem answers_readBank (id : BankId) :
    Answers p 2 2 (readBank id) fun v acts f => acts = readBankActs p id v ∧ Marks [id] false f := fun s hp _ ha => by
  obtain ⟨v, t, e, hd⟩ := did_readBank id ha
  exact ⟨v, t, _, _, e, hd, rfl, by rw [hp], marks_touch id 2⟩

theorem portCount_writeBankActs (id : BankId) (v m : Byte) : portCount (writeBankActs p id v m) = 2 := by
  unfold writeBankActs
  cases p.writeOrder <;> rfl

theorem answers_writeBank (id : BankId) (v m : Byte) :
    Answers p 2 2 (writeBank id v m) fun _ acts f => acts = writeBankActs p id v m ∧ Marks [id] false f :=
  fun s hp _ ha => by
    obtain ⟨t, e, hd⟩ := did_writeBank id v m ha
    rw [hp] at hd
    exact ⟨(), t, _, _, e, hd, portCount_writeBankActs id v m, rfl, marks_touch id 2⟩

theorem answers_restoreBank (id : BankId) :
    Answers p 1 1 (restoreBank id) fun _ acts f => acts = restoreActs p id ∧ Marks [id] false f := fun s hp _ ha => by
  obtain ⟨t, e, hd⟩ := did_restoreBank id (ha 0 (by omega))
  exact ⟨(), t, _, _, e, hd, rfl, by rw [hp], marks_touch id 1⟩

/-- Restores of several banks. -/
def restoresActs (p : Params) (ids : List BankId) : List Action := ids.flatMap (restoreActs p)

theorem portCount_restoresActs (ids : List BankId) : portCount (restoresActs p ids) = ids.length := by
  induction ids with
  | nil => rfl
  | cons id ids ih =>
    rw [restoresActs, List.flatMap_cons, portCount_append]
    change 1 + portCount (restoresActs p ids) = _
    rw [ih, List.length_cons, Nat.add_comm]

theorem answers_restores (ids : List BankId) :
    Answers p ids.length ids.length (attemptAll (ids.map restoreBank)) fun _ acts f =>
      acts = restoresActs p ids ∧ KeepsReport f := by
  induction ids with
  | nil => exact fun s _ _ _ => ⟨(), s, [], id, rfl, Did.refl s, rfl, rfl, keepsReport_id⟩
  | cons id ids ih =>
    rw [List.map_cons, attemptAll_cons, List.length_cons, Nat.add_comm]
    refine (answers_withCleanup (answers_restoreBank id) ih (by omega) (by omega)).mono ?_
    rintro - acts f ⟨as, bs, a, b, rfl, rfl, ⟨rfl, ha⟩, rfl, hb⟩
    exact ⟨rfl, ha.report.trans hb⟩

/-! ## Lines -/

theorem answers_lineAssert (l : Line) :
    Answers p 0 2 (act (lineAssert l)) fun _ acts f => acts = assertActs p l ∧ KeepsReport f := fun s hp _ _ =>
  ⟨(), _, _, _, rfl, did_lineAssert l s, rfl, by rw [hp], fun _ => ⟨rfl, rfl⟩⟩

theorem portCount_releaseActs (l : Line) : portCount (releaseActs p l) = (releaseActs p l).length := by
  unfold releaseActs
  split <;> rfl

theorem answers_lineRelease (l : Line) :
    Answers p 0 (portCount (releaseActs p l)) (act (lineRelease l)) fun _ acts f =>
      acts = releaseActs p l ∧ KeepsReport f := fun s hp _ _ => by
  subst hp
  exact ⟨(), _, _, _, rfl, did_lineRelease l s, rfl, rfl, fun _ => ⟨rfl, rfl⟩⟩

end

end Sys2Proof.Machine

/-! # Expander registers after a run of actions (R37, R167)

While the chips decode their addresses, an action on a bank changes that bank alone; a bank's own writes reach it in any case. -/

namespace Sys2Proof.Machine

/-! ## Chips and banks present -/

theorem mem_chipsOf {n : ChipCount} {c : ChipId} : c ∈ chipsOf n ↔ chipPresent n c = true := by
  cases n <;> cases c <;> decide

theorem mem_banksOf {n : ChipCount} {id : BankId} : id ∈ banksOf n ↔ chipPresent n id.chip = true := by
  obtain ⟨c, k⟩ := id
  simp only [banksOf, List.mem_flatMap, mem_chipsOf]
  constructor
  · rintro ⟨c', hc, h⟩
    simp only [List.mem_cons, BankId.mk.injEq, List.not_mem_nil, or_false] at h
    rcases h with ⟨rfl, -⟩ | ⟨rfl, -⟩ <;> exact hc
  · intro h
    refine ⟨c, h, ?_⟩
    cases k <;> simp

/-- The four bus-facing banks are on chips present, and differ (R163). -/
structure BusBanks (p : Params) : Prop where
  present : ∀ n ∈ [SignalName.addrLo, .addrHi, .data, .ctrl], chipPresent p.numChips (bankOf p n).chip = true
  lo_hi : bankOf p .addrLo ≠ bankOf p .addrHi
  lo_data : bankOf p .addrLo ≠ bankOf p .data
  lo_ctrl : bankOf p .addrLo ≠ bankOf p .ctrl
  hi_data : bankOf p .addrHi ≠ bankOf p .data
  hi_ctrl : bankOf p .addrHi ≠ bankOf p .ctrl
  data_ctrl : bankOf p .data ≠ bankOf p .ctrl

theorem chipPresent_of_isWholeBank {p : Params} {n : SignalName} (h : isWholeBank p n = true) :
    chipPresent p.numChips (bankOf p n).chip = true := by
  unfold isWholeBank at h
  unfold bankOf
  cases hl : lookupBits p n with
  | none => rw [hl] at h; cases h
  | some x => exact (lookupBits_some hl).2

theorem busBanks_of_registryOk {p : Params} (h : registryOk p = true) : BusBanks p := by
  simp only [registryOk, checkBusFacing, Bool.and_eq_true, bne_iff_ne] at h
  obtain ⟨⟨⟨⟨-, ⟨⟨⟨⟨⟨hwhole, h1⟩, h2⟩, h3⟩, h4⟩, h5⟩, h6⟩, -⟩, -⟩, -⟩ := h
  exact ⟨fun n hn => chipPresent_of_isWholeBank (List.all_eq_true.1 hwhole n hn), h1, h2, h3, h4, h5, h6⟩

/-! ## One bank -/

/-- A bank's registers when `v` is written to a register of its chip. -/
def writeBankRegs (r : Reg) (v : Byte) (k : Bank) (x : BankRegs) : BankRegs :=
  match r with
  | .iodir k' => if k = k' then { x with iodir := v } else x
  | .ipol k' => if k = k' then { x with ipol := v } else x
  | .iocon => x
  | .gppu k' => if k = k' then { x with gppu := v } else x
  | .olat k' => if k = k' then { x with olat := v } else x

/-- A bank's registers after an action, when an action reaches the chip it is addressed to and no other. -/
def Action.onBank (id : BankId) (x : BankRegs) : Action → BankRegs
  | .write c r v => if id.chip = c then writeBankRegs r v id.bank x else x
  | .failWrite c r _ v => if id.chip = c then writeBankRegs r v id.bank x else x
  | _ => x

/-- A bank's registers after several actions. -/
def bankAfter (id : BankId) (acts : List Action) (x : BankRegs) : BankRegs := acts.foldl (Action.onBank id) x

theorem bankRegs_writeReg (p : Params) (e : Expanders) (c : ChipId) (r : Reg) (v : Byte) (id : BankId) :
    bankRegs (writeReg p e c r v) id =
      if answers p e c id.chip then writeBankRegs r v id.bank (bankRegs e id) else bankRegs e id := by
  unfold bankRegs
  rw [chipRegs_writeReg]
  split
  · rw [portRegs_writeChip]; rfl
  · rfl

theorem bankRegs_failReg (e : Expanders) (c : ChipId) (r : Reg) (v : Byte) (id : BankId) :
    bankRegs (failReg e c r v) id =
      if id.chip = c then writeBankRegs r v id.bank (bankRegs e id) else bankRegs e id := by
  unfold bankRegs
  rw [chipRegs_failReg]
  split
  · rw [portRegs_writeChip]; rfl
  · rfl

/-! ## While the chips decode -/

/-- Every chip present decodes its address (R128). -/
def Decoding (p : Params) (e : Expanders) : Prop :=
  ∀ c, chipPresent p.numChips c = true → decodesAddress (chipRegs e c).iocon = true

theorem decoding_of_chipsDecode {s : State} (h : chipsDecode s = true) : Decoding s.params s.chips := fun c hc =>
  List.all_eq_true.1 h c (mem_chipsOf.2 hc)

theorem answers_of_decoding {p : Params} {e : Expanders} (h : Decoding p e) {c : ChipId}
    (hc : chipPresent p.numChips c = true) (c' : ChipId) : answers p e c c' = decide (c' = c) := by
  unfold answers
  by_cases heq : c' = c
  · subst heq; simp [hc]
  · cases hp : chipPresent p.numChips c' with
    | false => simp [heq]
    | true => simp [heq, h c' hp]

/-- The action writes to a chip that is present, and leaves chips that decode their addresses so. -/
def Action.Proper (p : Params) : Action → Prop
  | .write c r v => chipPresent p.numChips c = true ∧ (r = .iocon → decodesAddress v = true)
  | .failWrite _ r _ v => r = .iocon → decodesAddress v = true
  | _ => True

section
variable {p : Params} {e : Expanders}

theorem decodesAddress_writeChip {x : ChipRegs} {r : Reg} {v : Byte} (hx : decodesAddress x.iocon = true)
    (hr : r = .iocon → decodesAddress v = true) : decodesAddress (writeChip x r v).iocon = true := by
  cases r with
  | iocon => exact hr rfl
  | iodir k | ipol k | gppu k | olat k => exact (congrArg decodesAddress (withPort_iocon ..)).trans hx

theorem Decoding.chips (h : Decoding p e) {a : Action} (ha : a.Proper p) : Decoding p (a.chips p e) := by
  intro c hc
  cases a with
  | write c' r v =>
    rw [Action.chips, chipRegs_writeReg]
    split
    · exact decodesAddress_writeChip (h c hc) ha.2
    · exact h c hc
  | failWrite c' r u v =>
    rw [Action.chips, chipRegs_failReg]
    split
    · exact decodesAddress_writeChip (h c hc) ha
    · exact h c hc
  | _ => exact h c hc

theorem bankRegs_chips (h : Decoding p e) {a : Action} (ha : a.Proper p) (id : BankId) :
    bankRegs (a.chips p e) id = a.onBank id (bankRegs e id) := by
  cases a with
  | write c r v =>
    rw [Action.chips, bankRegs_writeReg, answers_of_decoding h ha.1]
    simp only [decide_eq_true_eq, Action.onBank]
  | failWrite c r u v => exact bankRegs_failReg e c r v id
  | _ => rfl

theorem Decoding.foldl {acts : List Action} (h : Decoding p e) (ha : ∀ a ∈ acts, a.Proper p) :
    Decoding p (acts.foldl (Action.chips p) e) := by
  induction acts generalizing e with
  | nil => exact h
  | cons a acts ih =>
    exact ih (h.chips (ha a (List.mem_cons_self ..))) fun b hb => ha b (List.mem_cons_of_mem _ hb)

theorem bankRegs_foldl {acts : List Action} (h : Decoding p e) (ha : ∀ a ∈ acts, a.Proper p) (id : BankId) :
    bankRegs (acts.foldl (Action.chips p) e) id = bankAfter id acts (bankRegs e id) := by
  induction acts generalizing e with
  | nil => rfl
  | cons a acts ih =>
    have hhead := ha a (List.mem_cons_self ..)
    rw [List.foldl_cons, ih (h.chips hhead) (fun b hb => ha b (List.mem_cons_of_mem _ hb)), bankRegs_chips h hhead]
    rfl

end

/-! ## A bank's own chip -/

/-- The action writes to no chip but `c`. -/
def Action.OnChip (c : ChipId) : Action → Prop
  | .write c' _ _ => c' = c
  | .failWrite c' _ _ _ => c' = c
  | _ => True

theorem bankRegs_foldl_self {p : Params} {e : Expanders} {id : BankId} (hp : chipPresent p.numChips id.chip = true)
    {acts : List Action} (ha : ∀ a ∈ acts, a.OnChip id.chip) :
    bankRegs (acts.foldl (Action.chips p) e) id = bankAfter id acts (bankRegs e id) := by
  induction acts generalizing e with
  | nil => rfl
  | cons a acts ih =>
    have hstep : bankRegs (a.chips p e) id = a.onBank id (bankRegs e id) := by
      have hhead := ha a (List.mem_cons_self ..)
      cases a with
      | write c r v =>
        obtain rfl : c = id.chip := hhead
        rw [Action.chips, bankRegs_writeReg]
        simp [answers, hp, Action.onBank]
      | failWrite c r u v => exact bankRegs_failReg e c r v id
      | _ => rfl
    rw [List.foldl_cons, ih (fun b hb => ha b (List.mem_cons_of_mem _ hb)), hstep]
    rfl

/-! ## Actions that only make banks inputs -/

/-- The action changes no register, or writes all-input to a direction register. -/
def Action.AllIn (p : Params) : Action → Prop
  | .write _ r v => (∃ k, r = .iodir k) ∧ v = allIn p
  | .failWrite _ _ _ _ => False
  | _ => True

section
variable {p : Params} {e : Expanders} {id : BankId}

theorem iodir_writeBankRegs_allIn {x : BankRegs} {k k' : Bank} (h : x.iodir = allIn p) :
    (writeBankRegs (.iodir k') (allIn p) k x).iodir = allIn p := by
  simp only [writeBankRegs]
  split
  · rfl
  · exact h

theorem iodir_chips_allIn {a : Action} (ha : a.AllIn p) (h : (bankRegs e id).iodir = allIn p) :
    (bankRegs (a.chips p e) id).iodir = allIn p := by
  cases a with
  | write c r v =>
    obtain ⟨⟨k, rfl⟩, rfl⟩ := ha
    rw [Action.chips, bankRegs_writeReg]
    split
    · exact iodir_writeBankRegs_allIn h
    · exact h
  | failWrite c r u v => exact ha.elim
  | _ => exact h

theorem iodir_foldl_allIn {acts : List Action} (ha : ∀ a ∈ acts, a.AllIn p) (h : (bankRegs e id).iodir = allIn p) :
    (bankRegs (acts.foldl (Action.chips p) e) id).iodir = allIn p := by
  induction acts generalizing e with
  | nil => exact h
  | cons a acts ih =>
    exact ih (fun b hb => ha b (List.mem_cons_of_mem _ hb)) (iodir_chips_allIn (ha a (List.mem_cons_self ..)) h)

/-- A bank that one of the actions makes all-input is so after them. -/
theorem iodir_foldl_of_mem {acts : List Action} (hp : chipPresent p.numChips id.chip = true)
    (ha : ∀ a ∈ acts, a.AllIn p) (hmem : Action.write id.chip (.iodir id.bank) (allIn p) ∈ acts) :
    (bankRegs (acts.foldl (Action.chips p) e) id).iodir = allIn p := by
  obtain ⟨as, bs, rfl⟩ := List.append_of_mem hmem
  rw [List.foldl_append, List.foldl_cons]
  refine iodir_foldl_allIn (fun b hb => ha b (by simp [hb])) ?_
  rw [Action.chips, bankRegs_writeReg]
  simp [answers, hp, writeBankRegs]

end

theorem outputBits_dirVal (p : Params) (m : Byte) : outputBits p (dirVal p m) = m := directionValues.2.2.1 p m

@[simp] theorem outputBits_allIn (p : Params) : outputBits p (allIn p) = 0x00#8 := outputBits_dirVal p 0#8

theorem blockDrive_of_allIn {s : State} {id : BankId} (h : (bankRegs s.chips id).iodir = allIn s.params) :
    blockDrive s id = 0x00#8 := by
  rw [blockDrive, h, outputBits_allIn]

/-! ## The runs of the bank driver -/

section
variable {p : Params} {id id' : BankId}

theorem bankAfter_append (as bs : List Action) (x : BankRegs) :
    bankAfter id (as ++ bs) x = bankAfter id bs (bankAfter id as x) := List.foldl_append ..

@[simp] theorem bankAfter_nil (x : BankRegs) : bankAfter id [] x = x := rfl

@[simp] theorem bankAfter_cycle (e : Event) (x : BankRegs) : bankAfter id [.cycle e] x = x := rfl

theorem bankAfter_writeDir (v : Byte) (x : BankRegs) :
    bankAfter id' [.write id.chip (.iodir id.bank) v] x = if id' = id then { x with iodir := v } else x := by
  obtain ⟨c, k⟩ := id
  obtain ⟨c', k'⟩ := id'
  simp only [bankAfter, List.foldl_cons, List.foldl_nil, Action.onBank, writeBankRegs, BankId.mk.injEq]
  by_cases hc : c' = c <;> simp [hc]

theorem bankAfter_writeLatch (v : Byte) (x : BankRegs) :
    bankAfter id' [.write id.chip (.olat id.bank) v] x = if id' = id then { x with olat := v } else x := by
  obtain ⟨c, k⟩ := id
  obtain ⟨c', k'⟩ := id'
  simp only [bankAfter, List.foldl_cons, List.foldl_nil, Action.onBank, writeBankRegs, BankId.mk.injEq]
  by_cases hc : c' = c <;> simp [hc]

theorem bankAfter_restore (x : BankRegs) :
    bankAfter id' (restoreActs p id) x = if id' = id then madeInput p x else x := bankAfter_writeDir _ _

theorem bankAfter_readBank (v : Byte) (x : BankRegs) :
    bankAfter id' (readBankActs p id v) x = if id' = id then madeInput p x else x :=
  bankAfter_writeDir (id := id) (id' := id') (allIn p) x

theorem bankAfter_writeBank (v m : Byte) (x : BankRegs) :
    bankAfter id' (writeBankActs p id v m) x = if id' = id then { x with iodir := dirVal p m, olat := v } else x := by
  unfold writeBankActs
  cases p.writeOrder with
  | latchFirst =>
    change bankAfter id' ([.write id.chip (.olat id.bank) v] ++ [.write id.chip (.iodir id.bank) (dirVal p m)]) x = _
    rw [bankAfter_append, bankAfter_writeLatch, bankAfter_writeDir]
    split <;> rfl
  | dirFirst =>
    change bankAfter id' ([.write id.chip (.iodir id.bank) (dirVal p m)] ++ [.write id.chip (.olat id.bank) v]) x = _
    rw [bankAfter_append, bankAfter_writeDir, bankAfter_writeLatch]
    split <;> rfl

theorem bankAfter_restores (ids : List BankId) (x : BankRegs) :
    bankAfter id (restoresActs p ids) x = if id ∈ ids then madeInput p x else x := by
  induction ids generalizing x with
  | nil => rfl
  | cons id' ids ih =>
    rw [restoresActs, List.flatMap_cons, bankAfter_append, bankAfter_restore]
    refine (ih _).trans ?_
    by_cases h : id = id'
    · subst h
      simp only [if_pos, List.mem_cons_self]
      split <;> rfl
    · simp [h]

theorem proper_writeBankActs (hp : chipPresent p.numChips id.chip = true) (v m : Byte) :
    ∀ a ∈ writeBankActs p id v m, a.Proper p := by
  intro a ha
  unfold writeBankActs at ha
  have hdir : Action.Proper p (.write id.chip (.iodir id.bank) (dirVal p m)) := ⟨hp, nofun⟩
  have hlatch : Action.Proper p (.write id.chip (.olat id.bank) v) := ⟨hp, nofun⟩
  cases h : p.writeOrder <;> simp only [h, List.mem_cons, List.not_mem_nil, or_false] at ha <;>
    rcases ha with rfl | rfl <;> assumption

theorem proper_restoreActs (hp : chipPresent p.numChips id.chip = true) : ∀ a ∈ restoreActs p id, a.Proper p := by
  intro a ha
  rw [List.mem_singleton.1 ha]
  exact ⟨hp, nofun⟩

theorem proper_readBankActs (hp : chipPresent p.numChips id.chip = true) (v : Byte) :
    ∀ a ∈ readBankActs p id v, a.Proper p := by
  intro a ha
  simp only [readBankActs, List.mem_cons, List.not_mem_nil, or_false] at ha
  rcases ha with rfl | rfl
  · exact ⟨hp, nofun⟩
  · trivial

theorem proper_restoresActs {ids : List BankId} (hp : ∀ id ∈ ids, chipPresent p.numChips id.chip = true) :
    ∀ a ∈ restoresActs p ids, a.Proper p := by
  intro a ha
  obtain ⟨id, hid, h⟩ := List.mem_flatMap.1 ha
  exact proper_restoreActs (hp id hid) a h

theorem allIn_restoreActs : ∀ a ∈ restoreActs p id, a.AllIn p := by
  intro a ha
  rw [List.mem_singleton.1 ha]
  exact ⟨⟨_, rfl⟩, rfl⟩

theorem allIn_readBankActs (v : Byte) : ∀ a ∈ readBankActs p id v, a.AllIn p := by
  intro a ha
  simp only [readBankActs, List.mem_cons, List.not_mem_nil, or_false] at ha
  rcases ha with rfl | rfl
  · exact ⟨⟨_, rfl⟩, rfl⟩
  · trivial

theorem allIn_restoresActs (ids : List BankId) : ∀ a ∈ restoresActs p ids, a.AllIn p := by
  intro a ha
  obtain ⟨id, -, h⟩ := List.mem_flatMap.1 ha
  exact allIn_restoreActs a h

end

/-! ## Frames of an instruction, from its updates -/

section
variable {i : Instr} {s t : State}

theorem lines_ext {x y : PerLine LinePin} (h : ∀ l, ofLine x l = ofLine y l) : x = y := by
  obtain ⟨a, b, c, d, e⟩ := x
  have := h .busrq; have := h .wait; have := h .reset; have := h .int; have := h .nmi
  simp_all [ofLine]

theorem sameBlock_of_exec (h : exec i s = .next t) (harb : mayWriteArb i = false)
    (hl : ∀ l, mayWriteLine i l = false) : sameBlock s t := by
  have hc : i ≠ .configure := by rintro rfl; cases harb
  have hp : mayWritePending i = false := mayWritePending_eq_false fun target => by rintro rfl; cases harb
  exact ⟨⟨exec_keeps keeps_params h, exec_keeps (keeps_configured hc) h, exec_keeps (keeps_pending hp) h,
    lines_ext fun l => exec_keeps (keeps_line (hl l)) h⟩, exec_keeps (keeps_arb harb) h⟩

theorem sameIocon_of_exec (h : exec i s = .next t) (hc : i ≠ .configure) : sameIocon s t :=
  ((expanderRegisterFrame i s t h).2.1 hc).1

theorem sameButDirections_of_exec (h : exec i s = .next t) (hc : i ≠ .configure) (hd : mayDrive i = false) :
    sameButDirections s t := by
  obtain ⟨hint, hconf, hlatch, -⟩ := expanderRegisterFrame i s t h
  obtain ⟨hiocon, hregs⟩ := hconf hc
  refine ⟨hiocon, fun id => ?_⟩
  have hol := hlatch (by cases i <;> trivial) id
  obtain ⟨hipol, hgppu⟩ := hregs id
  have hgpinten := hint id
  cases h1 : bankRegs s.chips id
  cases h2 : bankRegs t.chips id
  simp_all

end

end Sys2Proof.Machine

/-! # Instructions whose transfers are all answered -/

namespace Sys2Proof.Machine

/-- What a command that answers `OK` has done. -/
structure Answered (r : BitVec 16 × Byte) (acts : List Action) (s t : State) : Prop extends Performed acts s t where
  response : t.response = some (okReply false r.1 r.2)
  seq : t.seq = none

section
variable {i : Instr} {s : State} {r n : Nat} {Q : BitVec 16 × Byte → List Action → (Sequencer → Sequencer) → Prop}

/-- A command whose body is answered. -/
theorem exec_answers {o : Op (BitVec 16 × Byte)} (hi : isCommand i = true) (hreg : registryOk s.params = true)
    (hbody : ∀ q, commandBody i (setSeq q s) = o (setSeq q s)) (h : Answers s.params r n o Q)
    (hw : ∀ v acts f, Q v acts f → KeepsReport f) (ha : TransfersAnswered r s) :
    ∃ v t acts f, exec i s = .next t ∧ Answered v acts s t ∧ Q v acts f := by
  obtain ⟨v, m, acts, f, e, hd, -, hQ⟩ := h (setSeq (some (freshSeq i)) s) rfl nofun ha
  obtain ⟨hnext, hperf⟩ := command_did hreg ((hbody _).trans e) hd (hw v acts f hQ _).1
  exact ⟨v, _, acts, f, (exec_command hi s).trans hnext, ⟨hperf, rfl, rfl⟩, hQ⟩

/-- A command that returns no data. -/
theorem exec_noData {o : Op Unit} {R : List Action → (Sequencer → Sequencer) → Prop} (hi : isCommand i = true)
    (hreg : registryOk s.params = true) (hbody : ∀ q, commandBody i (setSeq q s) = noData o (setSeq q s))
    (h : Answers s.params r n o fun _ => R) (hw : ∀ acts f, R acts f → KeepsReport f) (ha : TransfersAnswered r s) :
    ∃ t acts f, exec i s = .next t ∧ Answered (0#16, 0#8) acts s t ∧ R acts f := by
  obtain ⟨v, t, acts, f, he, had, u, rfl, hR⟩ :=
    exec_answers hi hreg hbody (answers_map (fun _ => ((0#16, 0#8) : BitVec 16 × Byte)) h)
      (fun _ acts f ⟨_, _, hR⟩ => hw acts f hR) ha
  exact ⟨t, acts, f, he, had, hR⟩

/-- A command that returns a byte. -/
theorem exec_inD8 {o : Op Byte} {R : Byte → List Action → (Sequencer → Sequencer) → Prop} (hi : isCommand i = true)
    (hreg : registryOk s.params = true) (hbody : ∀ q, commandBody i (setSeq q s) = inD8 o (setSeq q s))
    (h : Answers s.params r n o R) (hw : ∀ v acts f, R v acts f → KeepsReport f) (ha : TransfersAnswered r s) :
    ∃ v t acts f, exec i s = .next t ∧ Answered (0#16, v) acts s t ∧ R v acts f := by
  obtain ⟨-, t, acts, f, he, had, v, rfl, hR⟩ :=
    exec_answers hi hreg hbody (answers_map (fun v => ((0#16, v) : BitVec 16 × Byte)) h)
      (fun _ acts f ⟨v, _, hR⟩ => hw v acts f hR) ha
  exact ⟨v, t, acts, f, he, had, hR⟩

/-- A command that returns an address. -/
theorem exec_inD16 {o : Op Addr} {R : Addr → List Action → (Sequencer → Sequencer) → Prop} (hi : isCommand i = true)
    (hreg : registryOk s.params = true) (hbody : ∀ q, commandBody i (setSeq q s) = inD16 o (setSeq q s))
    (h : Answers s.params r n o R) (hw : ∀ v acts f, R v acts f → KeepsReport f) (ha : TransfersAnswered r s) :
    ∃ v t acts f, exec i s = .next t ∧ Answered (v, 0#8) acts s t ∧ R v acts f := by
  obtain ⟨-, t, acts, f, he, had, v, rfl, hR⟩ :=
    exec_answers hi hreg hbody (answers_map (fun v => ((v, 0#8) : BitVec 16 × Byte)) h)
      (fun _ acts f ⟨v, _, hR⟩ => hw v acts f hR) ha
  exact ⟨v, t, acts, f, he, had, hR⟩

/-- A micro-op whose body is answered. -/
theorem micro_answers {α : Type} {o : Op α} {Q : α → List Action → (Sequencer → Sequencer) → Prop} (g : α → UopResult)
    (hreg : registryOk s.params = true) (h : Answers s.params r n o Q) (ha : TransfersAnswered r s) :
    ∃ v t acts f, microOp i (andThen o fun v => result (g v)) s = .next t ∧ t.uopResult = some (g v) ∧
      Performed acts s t ∧ Q v acts f := by
  have hcase (q : Sequencer) : ∃ v m acts f, andThen o (fun v => result (g v)) (setSeq (some q) s) = (.ok v, m) ∧
      Did acts f (setSeq (some q) s) m ∧ ∃ w, v = g w ∧ ∃ f, Q w acts f := by
    obtain ⟨v, m, acts, f, e, hd, -, w, hv, hQ⟩ := answers_map g h (setSeq (some q) s) rfl nofun ha
    exact ⟨v, m, acts, f, e, hd, w, hv, f, hQ⟩
  have hmicro : ∃ v t acts, microOp i (andThen o fun v => result (g v)) s = .next t ∧ t.uopResult = some v ∧
      Performed acts s t ∧ ∃ w, v = g w ∧ ∃ f, Q w acts f := microOp_did hreg hcase
  obtain ⟨v, t, acts, he, hv, hp, w, rfl, f, hQ⟩ := hmicro
  exact ⟨w, t, acts, f, he, hv, hp, hQ⟩

end

theorem uopBankId_of_present {s : State} {code : BitVec 2} {c : ChipId} (k : Bank) (hc : chipOfCode code = some c)
    (hp : chipPresent s.params.numChips c = true) : uopBankId s code k = some ⟨c, k⟩ := by
  simp only [uopBankId, hc, hp, if_true]

/-! ## Micro-ops -/

theorem Performed.portActions_eq {acts : List Action} {s t : State} {evs : List Event} (h : Performed acts s t)
    (he : portTrace s.params acts = evs) : Machine.portActions s t = evs := h.portActions.trans he

theorem Performed.bankRegs_self {acts : List Action} {s t : State} (h : Performed acts s t) {id : BankId}
    (hp : chipPresent s.params.numChips id.chip = true) (ha : ∀ a ∈ acts, a.OnChip id.chip) :
    bankRegs t.chips id = bankAfter id acts (bankRegs s.chips id) := by
  rw [h.chips, bankRegs_foldl_self hp ha]

theorem Performed.bankRegs {acts : List Action} {s t : State} (h : Performed acts s t) (hd : chipsDecode s = true)
    (ha : ∀ a ∈ acts, a.Proper s.params) (id : BankId) :
    bankRegs t.chips id = bankAfter id acts (bankRegs s.chips id) := by
  rw [h.chips, bankRegs_foldl (decoding_of_chipsDecode hd) ha]

/-- Settles O42: the micro-op is `readBank` of its bank. -/
theorem readBankResult : Obligations.ReadBankResult := by
  intro s code c k hreg hcode hp ha
  obtain ⟨v, t, acts, f, he, hv, hperf, rfl, -⟩ :=
    micro_answers (i := .readBank code k) UopResult.value hreg (answers_readBank (p := s.params) ⟨c, k⟩) ha
  have hexec : exec (.readBank code k) s = .next t := by
    rw [← he]
    simp only [exec, execReadBank, uopBankId_of_present k hcode hp]
  refine ⟨t, v, hexec, hv, hperf.portActions, hperf.busCycles, sameBlock_of_exec hexec rfl fun _ => rfl,
    sameButDirections_of_exec hexec nofun rfl, blockDrive_of_allIn ?_, exec_keeps (keeps_response rfl) hexec,
    fun hd id => ?_⟩
  · rw [exec_keeps keeps_params hexec, hperf.chips]
    exact iodir_foldl_of_mem hp (allIn_readBankActs v) (List.mem_cons_self ..)
  · rw [hperf.bankRegs hd (proper_readBankActs hp v), bankAfter_readBank]

theorem onChip_writeBankActs (p : Params) (id : BankId) (v m : Byte) :
    ∀ a ∈ writeBankActs p id v m, a.OnChip id.chip := by
  intro a ha
  unfold writeBankActs at ha
  cases h : p.writeOrder <;> simp only [h, List.mem_cons, List.not_mem_nil, or_false] at ha <;>
    rcases ha with rfl | rfl <;> rfl

/-- Settles O43: the micro-op is `writeBank` of its bank. -/
theorem writeBankResult : Obligations.WriteBankResult := by
  intro s code c k value mask hreg hcode hp ha
  obtain ⟨-, t, acts, f, he, hv, hperf, rfl, -⟩ := micro_answers (i := .writeBank code k value mask)
    (fun _ => UopResult.done) hreg (answers_writeBank (p := s.params) ⟨c, k⟩ value mask) ha
  have hexec : exec (.writeBank code k value mask) s = .next t := by
    rw [← he]
    simp only [exec, execWriteBank, uopBankId_of_present k hcode hp]
  have hbank : bankRegs t.chips ⟨c, k⟩ = { bankRegs s.chips ⟨c, k⟩ with iodir := dirVal s.params mask, olat := value } := by
    rw [hperf.bankRegs_self (id := ⟨c, k⟩) hp (onChip_writeBankActs _ _ _ _), bankAfter_writeBank, if_pos rfl]
  refine ⟨t, hexec, hv, by rw [hperf.portActions, portTrace_writeBank], by rw [hperf.busCycles, cycleTrace_writeBank],
    sameBlock_of_exec hexec rfl fun _ => rfl, sameIocon_of_exec hexec nofun, ?_, by rw [hbank],
    exec_keeps (keeps_response rfl) hexec, fun hd id => ?_⟩
  · rw [blockDrive, hbank, exec_keeps keeps_params hexec, outputBits_dirVal]
  · rw [hperf.bankRegs hd (proper_writeBankActs hp value mask), bankAfter_writeBank]

/-- A failed `RESTORE_BANK` given on its own. -/
theorem restoreBank_failed {s : State} {code : BitVec 2} {c : ChipId} {k : Bank} {v : Byte}
    (hreg : registryOk s.params = true) (hcode : chipOfCode code = some c)
    (hp : chipPresent s.params.numChips c = true) (hx : (drawAt s 0).xfer = .err v) (hseq : s.seq = none) :
    ∃ t, exec (.restoreBank code k) s = .next t ∧
      t.uopResult = some (.error (.transport c (regAddr s.params (.iodir k)) 0)) ∧
      Performed [.failWrite c (.iodir k) (allIn s.params) v] s t := by
  let s0 := setSeq (some (freshSeq (.restoreBank code k))) s
  obtain ⟨m, hm, hd⟩ := did_xferW_err c (.iodir k) (allIn s.params) (s := touch ⟨c, k⟩ s0) hx
  have hbody : (andThen (restoreBank ⟨c, k⟩) fun _ => result UopResult.done) s0 =
      (.failed (.transport c (regAddr s.params (.iodir k)) 0), m) := by
    have hrestore : restoreBank ⟨c, k⟩ s0 = (.failed (.transport c (regAddr s.params (.iodir k)) 0), m) := hm
    simp only [andThen, hrestore]
  have hrun := (did_touch ⟨c, k⟩ s0).trans hd
  refine ⟨setUopResult (.error (.transport c (regAddr s.params (.iodir k)) 0)) (if m.hung then m else setSeq none m), ?_,
    rfl, hrun.performed ⟨[], by split <;> simp, rfl⟩ (by split <;> exact ⟨rfl, rfl, rfl, rfl, rfl, rfl, fun _ => rfl, rfl⟩)
    (by split <;> rfl)⟩
  simp only [exec, execRestoreBank, uopBankId_of_present k hcode hp, microOp, hreg, if_true, hseq]
  rw [hbody]
  rfl

/-- Settles O44: the micro-op is `restoreBank` of its bank; a failed write reaches one register of one chip. -/
theorem restoreBankResult : Obligations.RestoreBankResult := by
  intro s code c k hreg hcode hp
  constructor
  · intro hok
    obtain ⟨-, t, acts, f, he, hv, hperf, rfl, -⟩ := micro_answers (i := .restoreBank code k)
      (fun _ => UopResult.done) hreg (answers_restoreBank (p := s.params) ⟨c, k⟩)
      (fun i hi => by rwa [Nat.lt_one_iff.1 hi])
    have hexec : exec (.restoreBank code k) s = .next t := by
      rw [← he]
      simp only [exec, execRestoreBank, uopBankId_of_present k hcode hp]
    refine ⟨t, hexec, hv, hperf.portActions, hperf.busCycles, sameBlock_of_exec hexec rfl fun _ => rfl,
      sameButDirections_of_exec hexec nofun rfl, blockDrive_of_allIn ?_, exec_keeps (keeps_response rfl) hexec,
      fun hd id => ?_⟩
    · rw [exec_keeps keeps_params hexec, hperf.chips]
      exact iodir_foldl_of_mem hp allIn_restoreActs (List.mem_cons_self ..)
    · rw [hperf.bankRegs hd (proper_restoreActs (id := ⟨c, k⟩) hp), bankAfter_restore]
  · intro v hx hseq
    obtain ⟨t, hexec, hres, hperf⟩ := restoreBank_failed hreg hcode hp hx hseq (k := k)
    refine ⟨t, hexec, hres, hperf.portActions, sameBlock_of_exec hexec rfl fun _ => rfl,
      sameIocon_of_exec hexec nofun, fun id => ?_⟩
    rw [hperf.chips]
    refine (bankRegs_failReg _ _ _ _ _).trans ?_
    obtain ⟨c', k'⟩ := id
    by_cases hc : c' = c <;> simp [hc, writeBankRegs]

/-! ## Lines -/

section
variable {p : Params} {x : PerLine LinePin} {l l' : Line}

theorem lines_assertActs :
    (assertActs p l).foldl Action.lines x = withLine x l (assertedPin p l (ofLine x l)) := by
  cases l <;> rfl

theorem lines_releaseActs :
    (releaseActs p l).foldl Action.lines x = withLine x l (releasedPin p l (ofLine x l)) := by
  unfold releaseActs releasedPin
  split <;> cases l <;> rfl

theorem chips_assertActs (e : Expanders) : (assertActs p l).foldl (Action.chips p) e = e := rfl

theorem chips_releaseActs (e : Expanders) : (releaseActs p l).foldl (Action.chips p) e = e := by
  unfold releaseActs
  split <;> rfl

end

theorem lineLevel_of_output {s : State} {l : Line} (h : (ofLine s.lines l).dir = .output) (d : Draw) :
    lineLevel s d l = (ofLine s.lines l).out := by
  simp only [lineLevel, h]

theorem lineLevel_of_pullUp {s : State} {l : Line} (h : (ofLine s.lines l).dir = .input)
    (hp : (ofLine s.lines l).pullUp = true) (d : Draw) : lineLevel s d l = true := by
  simp only [lineLevel, h, hp, Bool.true_or]

theorem not_lt_zero_answered (s : State) : TransfersAnswered 0 s := fun _ h => absurd h (Nat.not_lt_zero _)

/-- Settles O46: the micro-op is `lineRelease` of its line. -/
theorem lineReleaseResult : Obligations.LineReleaseResult := by
  intro s code l hreg hcode
  obtain ⟨-, t, acts, f, he, hv, hperf, rfl, -⟩ := micro_answers (i := .lineRelease code)
    (fun _ => UopResult.done) hreg (answers_lineRelease (p := s.params) l) (not_lt_zero_answered s)
  have hexec : exec (.lineRelease code) s = .next t := by
    rw [← he]
    simp only [exec, execLineRelease, hcode]
  have hline : ofLine t.lines l = releasedPin s.params l (ofLine s.lines l) := by
    rw [hperf.lines, lines_releaseActs, ofLine_withLine_same]
  have hports := hperf.portActions.trans (portTrace_release s.params l)
  refine ⟨t, hexec, hv, fun hlow => ?_, fun hhigh => ?_, fun l' hne => ?_, ?_,
    exec_keeps (keeps_arb rfl) hexec, exec_keeps (keeps_configured (i := .lineRelease code) nofun) hexec, exec_keeps (keeps_pending rfl) hexec,
    exec_keeps (keeps_response rfl) hexec, hperf.busCycles.trans (cycleTrace_release ..)⟩
  · have hpin : ofLine t.lines l = { ofLine s.lines l with dir := .input } := by simp [hline, releasedPin, hlow]
    refine ⟨by rw [hports]; simp [releaseTrace, hlow], hpin, fun hpull d => lineLevel_of_pullUp (by rw [hpin])
      (by rw [hpin]; exact hpull) d, fun hdir => ?_⟩
    rw [hperf.lines, lines_releaseActs, ← hline, hpin, ← hdir]
    exact withLine_ofLine ..
  · have hpin : ofLine t.lines l = { ofLine s.lines l with dir := .output, out := false } := by
      simp [hline, releasedPin, hhigh]
    exact ⟨by rw [hports]; simp [releaseTrace, hhigh], hpin,
      fun d => (lineLevel_of_output (by rw [hpin]) d).trans (by rw [hpin])⟩
  · rw [hperf.lines, lines_releaseActs, ofLine_withLine_of_ne _ _ hne]
  · rw [hperf.chips, chips_releaseActs]

/-! ## The debug lines -/

/-- A command that acts on one line only. -/
theorem exec_line {i : Instr} {s : State} {g : State → State} {l : Line} {n : Nat} {acts : List Action} {x : LinePin}
    {evs : List Event} (hi : isCommand i = true) (hreg : registryOk s.params = true)
    (hbody : ∀ q, commandBody i (setSeq q s) = noData (act g) (setSeq q s))
    (h : Answers s.params 0 n (act g) fun _ as f => as = acts ∧ KeepsReport f)
    (hports : portTrace s.params acts = evs) (hcycles : cycleTrace s.params acts = [])
    (hlines : acts.foldl Action.lines s.lines = withLine s.lines l x)
    (hchips : acts.foldl (Action.chips s.params) s.chips = s.chips) :
    ∃ t, exec i s = .next t ∧ t.response = some (okReply false 0#16 0#8) ∧ portActions s t = evs ∧
      ofLine t.lines l = x ∧ sameOtherLines l s t ∧ t.chips = s.chips ∧ busCycles s t = [] ∧ t.seq = none := by
  obtain ⟨t, as, f, he, had, rfl, -⟩ := exec_noData hi hreg hbody h (fun _ _ hR => hR.2) (not_lt_zero_answered s)
  refine ⟨t, he, had.response, had.portActions.trans hports, ?_, fun l' hne => ?_, ?_, had.busCycles.trans hcycles,
    had.seq⟩
  · rw [had.lines, hlines, ofLine_withLine_same]
  · rw [had.lines, hlines, ofLine_withLine_of_ne _ _ hne]
  · rw [had.chips, hchips]

/-- Settles O34: the command is `lineAssert` or `lineRelease` of WAIT. -/
theorem setWaitResult : Obligations.SetWaitResult := by
  intro s active hreg hconf
  have hbody (q : Option Sequencer) : commandBody (.setWait active) (setSeq q s) =
      noData (setWaitOp active) (setSeq q s) := precheck_passes hconf nofun
  obtain ⟨t, he, hresp, hports, hline, hother, hchips, hcycles, hseq⟩ :
      ∃ t, exec (.setWait active) s = .next t ∧ t.response = some (okReply false 0#16 0#8) ∧
        portActions s t = (if active then assertTrace s.params .wait else releaseTrace s.params .wait) ∧
        ofLine t.lines .wait = (if active then assertedPin s.params .wait (ofLine s.lines .wait)
          else releasedPin s.params .wait (ofLine s.lines .wait)) ∧
        sameOtherLines .wait s t ∧ t.chips = s.chips ∧ busCycles s t = [] ∧ t.seq = none := by
    cases active with
    | true => exact exec_line rfl hreg hbody (answers_lineAssert .wait) (portTrace_assert ..) rfl lines_assertActs rfl
    | false =>
      exact exec_line rfl hreg hbody (answers_lineRelease .wait) (portTrace_release ..) (cycleTrace_release ..)
        lines_releaseActs (chips_releaseActs _)
  exact ⟨t, he, hresp, hports, hline, hother, hchips, exec_keeps (keeps_arb rfl) he,
    (exec_keeps (keeps_configured (i := .setWait active) nofun) he).trans hconf, exec_keeps (keeps_pending rfl) he, exec_keeps keeps_params he,
    hcycles, hseq⟩

/-- The actions of `pulseLine` (R281). -/
def pulseActs (p : Params) (l : Line) (pulse : Bool) : List Action :=
  assertActs p l ++ if pulse then releaseActs p l else []

theorem answers_pulseLine {p : Params} (l : Line) (pulse : Bool) :
    Answers p 0 (portCount (pulseActs p l pulse)) (act (pulseLine l pulse)) fun _ acts f =>
      acts = pulseActs p l pulse ∧ KeepsReport f := by
  cases pulse with
  | false => exact answers_lineAssert l
  | true =>
    have h := answers_andThen (q := 0) (answers_lineAssert (p := p) l) (fun _ => answers_lineRelease (p := p) l)
      (Nat.le_refl 0) (.inl rfl)
    rw [pulseActs, portCount_append]
    refine h.mono ?_
    rintro - acts f ⟨-, as, bs, a, b, rfl, rfl, ⟨rfl, ha⟩, rfl, hb⟩
    exact ⟨rfl, ha.trans hb⟩

theorem controlLineOf_of_getElem? {signal : Byte} {l : Line} (h : [Line.reset, .int, .nmi][signal.toNat]? = some l) :
    controlLineOf signal = some l := by
  have hlt : signal.toNat < 3 := (List.getElem?_eq_some_iff.1 h).1
  have hcases : signal = 0#8 ∨ signal = 1#8 ∨ signal = 2#8 := by bv_omega
  rcases hcases with rfl | rfl | rfl <;> exact h

theorem controlLineOf_of_le {signal : Byte} (h : 3 ≤ signal.toNat) : controlLineOf signal = none := by
  unfold controlLineOf
  rw [if_neg (by rintro rfl; exact absurd h (by decide)), if_neg (by rintro rfl; exact absurd h (by decide)),
    if_neg (by rintro rfl; exact absurd h (by decide))]

/-- Settles O35: an unknown code is found by the body before anything else; a known one is `pulseLine` of its line. -/
theorem controlLineResult : Obligations.ControlLineResult := by
  intro s signal pulse hreg
  refine ⟨fun h => ?_, fun l hl hconf => ?_⟩
  · refine ⟨errReply false (.unknownSignal signal), (exec_command rfl s).trans (command_of_raise hreg ?_), by simp [errReply, statusOf],
      by simp [errReply, errD8], by simp [errReply, errD16], by simp [errReply]⟩
    exact fun _ => congrFun (controlLineBody_unknown (controlLineOf_of_le h) pulse) _
  · have hknown := controlLineOf_of_getElem? hl
    have hbody (q : Option Sequencer) : commandBody (.controlLine signal pulse) (setSeq q s) =
        noData (act (pulseLine l pulse)) (setSeq q s) :=
      (congrFun (controlLineBody_known hknown pulse) _).trans (precheck_passes hconf nofun)
    have hlines : (pulseActs s.params l pulse).foldl Action.lines s.lines = withLine s.lines l
        (if pulse then releasedPin s.params l (assertedPin s.params l (ofLine s.lines l))
          else assertedPin s.params l (ofLine s.lines l)) := by
      rw [pulseActs, List.foldl_append, lines_assertActs]
      cases pulse with
      | false => rfl
      | true =>
        simp only [if_true]
        rw [lines_releaseActs, ofLine_withLine_same]
        cases l <;> rfl
    obtain ⟨t, he, hresp, hports, hline, hother, hchips, hcycles, hseq⟩ :=
      exec_line (i := .controlLine signal pulse) rfl hreg hbody (answers_pulseLine l pulse)
        (evs := assertTrace s.params l ++ (if pulse then releaseTrace s.params l else [])) (by
          rw [pulseActs, portTrace_append, portTrace_assert]
          cases pulse <;> simp) (by
          rw [pulseActs, cycleTrace_append, cycleTrace_assert]
          cases pulse <;> simp) hlines (by
          rw [pulseActs, List.foldl_append, chips_assertActs]
          cases pulse with
          | false => rfl
          | true => exact chips_releaseActs _)
    exact ⟨t, he, hresp, hports, hline, hother, hchips, exec_keeps (keeps_arb rfl) he,
      (exec_keeps (keeps_configured (i := .controlLine signal pulse) nofun) he).trans hconf, exec_keeps (keeps_pending rfl) he, exec_keeps keeps_params he,
      hcycles, hseq⟩

end Sys2Proof.Machine

/-! # Transactions whose transfers are all answered (R231 to R235) -/

namespace Sys2Proof.Machine

section
variable {p : Params}

/-! ## Steps of a transaction -/

theorem answers_xferW (c : ChipId) (r : Reg) (v : Byte) :
    Answers p 1 1 (xferW c r v) fun _ acts f => acts = [.write c r v] ∧ f = Sequencer.tick := fun _ _ _ ha => by
  obtain ⟨t, e, hd⟩ := did_xferW c r v (ha 0 (by omega))
  exact ⟨(), t, _, _, e, hd, rfl, rfl, rfl⟩

theorem answers_driveBank (n : SignalName) (v : Byte) :
    Answers p 2 2 (driveBank n v) fun _ acts f =>
      acts = writeBankActs p (bankOf p n) v 0xFF#8 ∧ Marks [bankOf p n] false f :=
  answers_depends (f := fun m => writeBank (bankOf m.params n) v 0xFF#8) fun m hm => by
    subst hm; exact answers_writeBank (bankOf m.params n) v 0xFF#8

/-- The entry of a bus cycle, if there is one. -/
def eventActs : Option Event → List Action
  | some e => [.cycle e]
  | none => []

theorem answers_recordWrite {e : Option Event} (he : ∀ x ∈ e, isBusCycle x = true) :
    Answers p 0 0 (recordWrite e) fun _ acts f => acts = eventActs e ∧ f = id := fun s _ _ _ => by
  cases e with
  | none => exact ⟨(), s, [], id, rfl, Did.refl s, rfl, rfl, rfl⟩
  | some e => exact ⟨(), _, _, id, rfl, Did.record (he e rfl) s, rfl, rfl, rfl⟩

/-- The actions a strobe assert may consist of: where the entry of a write cycle stands (R239, log 21). -/
def strobeRuns (p : Params) (m : Byte) (e : Option Event) : List (List Action) :=
  let id := bankOf p .ctrl
  match p.writeOrder with
  | .latchFirst => [writeBankActs p id (ctrlValue p m) m ++ eventActs e]
  | .dirFirst =>
    [ [.write id.chip (.iodir id.bank) (dirVal p m), .write id.chip (.olat id.bank) (ctrlValue p m)] ++ eventActs e,
      [.write id.chip (.iodir id.bank) (dirVal p m)] ++ eventActs e ++ [.write id.chip (.olat id.bank) (ctrlValue p m)] ]

theorem marks_strobed : Marks [] true fun q => { q with strobed := true } := ⟨by simp, by simp, fun _ => ⟨rfl, rfl⟩⟩

theorem answers_assertStrobes (kind : CycleKind) (m : Byte) {e : Option Event} (he : ∀ x ∈ e, isBusCycle x = true) :
    Answers p 2 2 (assertStrobes kind m e) fun _ acts f => acts ∈ strobeRuns p m e ∧ Marks [bankOf p .ctrl] true f := by
  have hrec := answers_recordWrite (p := p) he
  have hmark := answers_modifySeq (p := p) fun q => { q with strobed := true }
  rw [assertStrobes_eq]
  refine answers_depends fun s hs => ?_
  subst hs
  set id := bankOf s.params .ctrl with hid
  cases ho : s.params.writeOrder with
  | latchFirst =>
    have hall := answers_andThen (q := 2) hmark (fun _ => answers_andThen (q := 2)
      (answers_writeBank id (ctrlValue s.params m) m) (fun _ => hrec) (by omega) (by omega)) (by omega) (by omega)
    refine hall.mono ?_
    rintro - acts f ⟨-, _, _, a, _, rfl, rfl, ⟨rfl, rfl⟩, -, as, bs, b, c, rfl, rfl, ⟨rfl, hb⟩, rfl, rfl⟩
    exact ⟨by simp [strobeRuns, ho, ← hid], marks_strobed.trans hb⟩
  | dirFirst =>
    have hearly := answers_andThen (q := 1) hrec
      (fun _ => answers_xferW (p := s.params) id.chip (.olat id.bank) (ctrlValue s.params m)) (by omega) (by omega)
    have hlate := answers_andThen (q := 1) (answers_xferW (p := s.params) id.chip (.olat id.bank) (ctrlValue s.params m))
      (fun _ => hrec) (by omega) (by omega)
    have htouch := answers_modifySeq (p := s.params) (Sequencer.touch id)
    have hlatch : Answers s.params 1 1 (fun n : State => (if kindOf n.cycle = kind then
          andThen (recordWrite e) fun _ => xferW id.chip (.olat id.bank) (ctrlValue n.params m)
        else andThen (xferW id.chip (.olat id.bank) (ctrlValue n.params m)) fun _ => recordWrite e) n)
        fun _ acts f => (acts = eventActs e ++ [.write id.chip (.olat id.bank) (ctrlValue s.params m)] ∨
          acts = [.write id.chip (.olat id.bank) (ctrlValue s.params m)] ++ eventActs e) ∧ f = Sequencer.tick := by
      refine answers_depends (f := fun n => if kindOf n.cycle = kind then
          andThen (recordWrite e) fun _ => xferW id.chip (.olat id.bank) (ctrlValue n.params m)
        else andThen (xferW id.chip (.olat id.bank) (ctrlValue n.params m)) fun _ => recordWrite e) fun n hn => ?_
      rw [hn]
      split
      · refine hearly.mono ?_
        rintro - acts f ⟨-, as, bs, a, b, rfl, rfl, ⟨rfl, rfl⟩, rfl, rfl⟩
        exact ⟨.inl rfl, rfl⟩
      · refine hlate.mono ?_
        rintro - acts f ⟨-, as, bs, a, b, rfl, rfl, ⟨rfl, rfl⟩, rfl, rfl⟩
        exact ⟨.inr rfl, rfl⟩
    have hall := answers_andThen (q := 2) hmark (fun _ => answers_andThen (q := 2) htouch (fun _ =>
      answers_andThen (q := 2) (answers_xferW (p := s.params) id.chip (.iodir id.bank) (dirVal s.params m))
        (fun _ => hlatch) (by omega) (by omega)) (by omega) (by omega)) (by omega) (by omega)
    refine hall.mono ?_
    rintro - acts f ⟨-, _, _, a, _, rfl, rfl, ⟨rfl, rfl⟩, -, _, _, b, _, rfl, rfl, ⟨rfl, rfl⟩, -, as, bs, c, d, rfl, rfl,
      ⟨rfl, rfl⟩, hacts, rfl⟩
    refine ⟨?_, marks_strobed.trans (marks_touch id 2)⟩
    rcases hacts with rfl | rfl <;> simp [strobeRuns, ho, ← hid]

theorem strobeRuns_none {m : Byte} {acts : List Action} (h : acts ∈ strobeRuns p m none) :
    acts = writeBankActs p (bankOf p .ctrl) (ctrlValue p m) m := by
  unfold strobeRuns at h
  unfold writeBankActs
  cases ho : p.writeOrder <;> simp only [ho, eventActs, writeBankActs, List.append_nil, List.mem_cons, List.not_mem_nil,
    or_false] at h
  · exact h
  · rcases h with rfl | rfl <;> rfl

theorem answers_readDataBank {e : Byte → Event} (he : ∀ v, isBusCycle (e v) = true) :
    Answers p 2 2 (readDataBank e) fun v acts f =>
      acts = readBankActs p (bankOf p .data) v ++ [.cycle (e v)] ∧ Marks [bankOf p .data] false f := by
  refine answers_depends (f := fun s => andThen (readBank (bankOf s.params .data)) fun v m => (.ok v, record (e v) m))
    fun s hs => ?_
  subst hs
  have hrec (v : Byte) : Answers s.params 0 0 (fun m => (.ok v, record (e v) m)) fun w acts f =>
      w = v ∧ acts = [.cycle (e v)] ∧ f = id := fun m _ _ _ =>
    ⟨v, _, _, id, rfl, Did.record (he v) m, rfl, rfl, rfl, rfl⟩
  refine (answers_andThen (q := 2) (answers_readBank _) hrec (by omega) (by omega)).mono ?_
  rintro w acts f ⟨v, as, bs, a, b, rfl, rfl, ⟨rfl, ha⟩, rfl, rfl, rfl⟩
  exact ⟨rfl, ha⟩

/-! ## The cleanup -/

/-- The banks of the restore order that are among `ids`. -/
def inRestoreOrder (p : Params) (ids : List BankId) : List BankId := (restoreOrder p).filter fun id => ids.contains id

/-- The actions of the cleanup (R231). -/
def cleanupActs (p : Params) (m : Byte) (ids : List BankId) : List Action :=
  writeBankActs p (bankOf p .ctrl) (ctrlValue p 0#8) m ++ restoresActs p ids

theorem touchedInOrder_of_marks {ids : List BankId} {b : Bool} {f : Sequencer → Sequencer} {s : State} {q : Sequencer}
    (hf : Marks ids b f) (hq : q.touched = []) (hs : s.seq = some (f q)) :
    touchedInOrder s = inRestoreOrder s.params ids := by
  simp only [touchedInOrder, hs, inRestoreOrder]
  refine List.filter_congr fun id _ => ?_
  rw [Bool.eq_iff_iff, List.contains_iff_mem, List.contains_iff_mem, hf.touched, hq]
  simp

theorem strobedNow_of_marks {ids : List BankId} {b : Bool} {f : Sequencer → Sequencer} {s : State} {q : Sequencer}
    (hf : Marks ids b f) (hq : q.strobed = false) (hs : s.seq = some (f q)) : strobedNow s = b := by
  simp only [strobedNow, hs, hf.strobed, hq, Bool.false_or]

theorem answers_deassertStrobes (m : Byte) :
    Answers p 2 2 (deassertStrobes m) fun _ acts f =>
      acts = writeBankActs p (bankOf p .ctrl) (ctrlValue p 0#8) m ∧ KeepsReport f :=
  answers_depends (f := fun s => writeBank (bankOf s.params .ctrl) (ctrlValue s.params 0#8) m) fun s hs => by
    subst hs
    exact (answers_writeBank _ _ _).mono fun _ _ _ ⟨ha, hf⟩ => ⟨ha, hf.report⟩

/-- A transaction whose forward steps are answered, and assert the strobes, then cleans up. -/
theorem answers_transaction {α : Type} {n : Nat} {o : Op α} {m : Byte} {ids : List BankId}
    {Q : α → List Action → Prop} (ho : Answers p n n o fun v acts f => Q v acts ∧ Marks ids true f) :
    Answers p (n + (2 + (inRestoreOrder p ids).length)) (n + (2 + (inRestoreOrder p ids).length)) (transaction m o)
      fun v acts f => ∃ as, acts = as ++ cleanupActs p m (inRestoreOrder p ids) ∧ Q v as ∧ KeepsReport f := by
  intro s hp hs ha
  obtain ⟨q, hq⟩ := Option.ne_none_iff_exists'.1 hs
  let fresh : Sequencer → Sequencer := fun q => { q with touched := [], strobed := false }
  have hfresh := Did.modifySeq fresh s
  obtain ⟨v, m1, as, f, e, hd, hn, hQ, hf⟩ := ho (freshTransaction s) hp (hfresh.seq_ne_none hs)
    (hfresh.answered_of (q := n + (2 + (inRestoreOrder p ids).length)) (n := 0) rfl ha (by omega))
  have hm1 : m1.params = p := hd.params.trans hp
  have hseq : m1.seq = some (f (fresh q)) := by rw [hd.seq, show (freshTransaction s).seq = _ from hfresh.seq, hq]; rfl
  have hcleanup : transactionCleanup m m1 = withCleanup (deassertStrobes m)
      (attemptAll ((inRestoreOrder p ids).map restoreBank)) m1 := by
    rw [← attemptAll_cons]
    simp only [transactionCleanup, strobedNow_of_marks hf rfl hseq, touchedInOrder_of_marks hf rfl hseq, hm1, if_true,
      List.singleton_append]
  obtain ⟨_, t, bs, g, e', hd', hk, as', bs', a', b', rfl, rfl, ⟨rfl, ha'⟩, rfl, hb'⟩ :=
    answers_withCleanup (q := 2 + (inRestoreOrder p ids).length) (answers_deassertStrobes m)
      (answers_restores (inRestoreOrder p ids)) (by omega) (by omega) m1 hm1 (hd.seq_ne_none (hfresh.seq_ne_none hs))
      (hd.answered_of hn (hfresh.answered_of (n := 0) (r := n + (2 + (inRestoreOrder p ids).length)) rfl ha (by omega)) (by omega))
  refine ⟨v, t, _, _, ?_, (hfresh.trans hd).trans hd', ?_, as, rfl, hQ, ?_⟩
  · rw [← hcleanup] at e'
    simp only [transaction, withCleanup, e, e']
  · rw [portCount_append, List.nil_append, hn, hk]
  · exact KeepsReport.trans (f := f ∘ fresh) (fun q => hf.report (fresh q)) (ha'.trans hb')

end

/-! ## The four transactions -/

section
variable {p : Params} (a : Addr) (port v : Byte)

/-- The forward actions of `readMemory` (R232). -/
def readMemActs (p : Params) (a : Addr) (v : Byte) : List Action :=
  writeBankActs p (bankOf p .addrLo) (addrLow a) 0xFF#8 ++ writeBankActs p (bankOf p .addrHi) (addrHigh a) 0xFF#8 ++
    writeBankActs p (bankOf p .ctrl) (ctrlValue p (memRdMask p)) (memRdMask p) ++
    readBankActs p (bankOf p .data) v ++ [.cycle (.memRead a v)]

/-- The forward actions of `readIo` (R234). -/
def readIoActs (p : Params) (port v : Byte) : List Action :=
  writeBankActs p (bankOf p .addrLo) port 0xFF#8 ++
    writeBankActs p (bankOf p .ctrl) (ctrlValue p (ioRdMask p)) (ioRdMask p) ++
    readBankActs p (bankOf p .data) v ++ [.cycle (.ioRead port v)]

/-- The forward actions of `writeMemory` before its strobe assert (R233). -/
def writeMemDrives (p : Params) (a : Addr) (v : Byte) : List Action :=
  writeBankActs p (bankOf p .addrLo) (addrLow a) 0xFF#8 ++ writeBankActs p (bankOf p .addrHi) (addrHigh a) 0xFF#8 ++
    writeBankActs p (bankOf p .data) v 0xFF#8

/-- The forward actions of `writeIo` before its strobe assert (R235). -/
def writeIoDrives (p : Params) (port v : Byte) : List Action :=
  writeBankActs p (bankOf p .addrLo) port 0xFF#8 ++ writeBankActs p (bankOf p .data) v 0xFF#8

/-- The banks of a memory transaction, all four. -/
theorem inRestoreOrder_all (p : Params) {ids : List BankId} (h : ∀ id ∈ restoreOrder p, id ∈ ids) :
    inRestoreOrder p ids = restoreOrder p :=
  List.filter_eq_self.2 fun id hid => List.contains_iff_mem.2 (h id hid)

/-- The banks of an I/O transaction: all but that of the high address byte. -/
theorem inRestoreOrder_io (hb : BusBanks p) {ids : List BankId}
    (h : ∀ id, id ∈ ids ↔ id = bankOf p .addrLo ∨ id = bankOf p .ctrl ∨ id = bankOf p .data) :
    inRestoreOrder p ids = [bankOf p .ctrl, bankOf p .data, bankOf p .addrLo] := by
  have hctrl : ids.contains (bankOf p .ctrl) = true := List.contains_iff_mem.2 ((h _).2 (.inr (.inl rfl)))
  have hdata : ids.contains (bankOf p .data) = true := List.contains_iff_mem.2 ((h _).2 (.inr (.inr rfl)))
  have hlo : ids.contains (bankOf p .addrLo) = true := List.contains_iff_mem.2 ((h _).2 (.inl rfl))
  have hhi : ids.contains (bankOf p .addrHi) = false := by
    rw [← Bool.not_eq_true, List.contains_iff_mem, h]
    exact fun h => h.elim (fun h => hb.lo_hi h.symm) fun h => h.elim hb.hi_ctrl hb.hi_data
  simp only [inRestoreOrder, restoreOrder, List.filter_cons, hctrl, hdata, hlo, hhi, List.filter_nil, if_true,
    Bool.false_eq_true, if_false]

theorem answers_readMemForward : Answers p 8 8 (readMemForward p a) fun w acts f => acts = readMemActs p a w ∧
    Marks [bankOf p .addrLo, bankOf p .addrHi, bankOf p .ctrl, bankOf p .data] true f := by
  have hall := answers_andThen (q := 8) (answers_driveBank (p := p) .addrLo (addrLow a)) (fun _ =>
    answers_andThen (q := 6) (answers_driveBank (p := p) .addrHi (addrHigh a)) (fun _ =>
      answers_andThen (q := 4) (answers_assertStrobes (p := p) .memRead (memRdMask p) (e := none) nofun)
        (fun _ => answers_readDataBank (p := p) (e := Event.memRead a) fun _ => rfl)
        (by omega) (by omega)) (by omega) (by omega)) (by omega) (by omega)
  refine hall.mono ?_
  rintro v acts f ⟨-, as1, _, a1, _, rfl, rfl, ⟨rfl, h1⟩, -, as2, _, a2, _, rfl, rfl, ⟨rfl, h2⟩, -, as3, as4, a3, a4, rfl,
    rfl, ⟨h3, h3'⟩, rfl, h4⟩
  exact ⟨by simp only [readMemActs, strobeRuns_none h3, List.append_assoc], h1.trans (h2.trans (h3'.trans h4))⟩

theorem answers_writeMemForward : Answers p 8 8 (writeMemForward p a v) fun _ acts f =>
    (∃ as ∈ strobeRuns p (memWrMask p) (some (.memWrite a v)), acts = writeMemDrives p a v ++ as) ∧
      Marks [bankOf p .addrLo, bankOf p .addrHi, bankOf p .data, bankOf p .ctrl] true f := by
  have hall := answers_andThen (q := 8) (answers_driveBank (p := p) .addrLo (addrLow a)) (fun _ =>
    answers_andThen (q := 6) (answers_driveBank (p := p) .addrHi (addrHigh a)) (fun _ =>
      answers_andThen (q := 4) (answers_driveBank (p := p) .data v)
        (fun _ => answers_assertStrobes (p := p) .memWrite (memWrMask p) (e := some (.memWrite a v))
          fun _ he => by cases he; rfl)
        (by omega) (by omega)) (by omega) (by omega)) (by omega) (by omega)
  refine hall.mono ?_
  rintro - acts f ⟨-, as1, _, a1, _, rfl, rfl, ⟨rfl, h1⟩, -, as2, _, a2, _, rfl, rfl, ⟨rfl, h2⟩, -, as3, as4, a3, a4, rfl,
    rfl, ⟨rfl, h3⟩, h4, h4'⟩
  exact ⟨⟨as4, h4, by simp only [writeMemDrives, List.append_assoc]⟩, h1.trans (h2.trans (h3.trans h4'))⟩

theorem answers_readIoForward : Answers p 6 6 (readIoForward p port) fun w acts f => acts = readIoActs p port w ∧
    Marks [bankOf p .addrLo, bankOf p .ctrl, bankOf p .data] true f := by
  have hall := answers_andThen (q := 6) (answers_driveBank (p := p) .addrLo port) (fun _ =>
    answers_andThen (q := 4) (answers_assertStrobes (p := p) .ioRead (ioRdMask p) (e := none) nofun)
      (fun _ => answers_readDataBank (p := p) (e := Event.ioRead port) fun _ => rfl)
      (by omega) (by omega)) (by omega) (by omega)
  refine hall.mono ?_
  rintro v acts f ⟨-, as1, _, a1, _, rfl, rfl, ⟨rfl, h1⟩, -, as2, as3, a2, a3, rfl, rfl, ⟨h2, h2'⟩, rfl, h3⟩
  exact ⟨by simp only [readIoActs, strobeRuns_none h2, List.append_assoc], h1.trans (h2'.trans h3)⟩

theorem answers_writeIoForward : Answers p 6 6 (writeIoForward p port v) fun _ acts f =>
    (∃ as ∈ strobeRuns p (ioWrMask p) (some (.ioWrite port v)), acts = writeIoDrives p port v ++ as) ∧
      Marks [bankOf p .addrLo, bankOf p .data, bankOf p .ctrl] true f := by
  have hall := answers_andThen (q := 6) (answers_driveBank (p := p) .addrLo port) (fun _ =>
    answers_andThen (q := 4) (answers_driveBank (p := p) .data v)
      (fun _ => answers_assertStrobes (p := p) .ioWrite (ioWrMask p) (e := some (.ioWrite port v))
        fun _ he => by cases he; rfl)
      (by omega) (by omega)) (by omega) (by omega)
  refine hall.mono ?_
  rintro - acts f ⟨-, as1, _, a1, _, rfl, rfl, ⟨rfl, h1⟩, -, as2, as3, a2, a3, rfl, rfl, ⟨rfl, h2⟩, h3, h3'⟩
  exact ⟨⟨as3, h3, by simp only [writeIoDrives, List.append_assoc]⟩, h1.trans (h2.trans h3')⟩

theorem answers_readMemoryOp :
    Answers p 14 14 (readMemoryOp a) fun v acts f =>
      acts = readMemActs p a v ++ cleanupActs p (memRdMask p) (restoreOrder p) ∧ KeepsReport f := by
  refine answers_depends (f := fun s => transaction (memRdMask s.params) (readMemForward s.params a)) fun s hs => ?_
  subst hs
  have htrans := answers_transaction (p := s.params) (m := memRdMask s.params) (answers_readMemForward a)
  rw [inRestoreOrder_all s.params (by simp [restoreOrder])] at htrans
  refine htrans.mono ?_
  rintro v acts f ⟨-, rfl, rfl, hf⟩
  exact ⟨rfl, hf⟩

theorem answers_writeMemoryOp :
    Answers p 14 14 (writeMemoryOp a v) fun _ acts f => (∃ as ∈ strobeRuns p (memWrMask p) (some (.memWrite a v)),
      acts = writeMemDrives p a v ++ as ++ cleanupActs p (memWrMask p) (restoreOrder p)) ∧ KeepsReport f := by
  refine answers_depends (f := fun s => transaction (memWrMask s.params) (writeMemForward s.params a v)) fun s hs => ?_
  subst hs
  have htrans := answers_transaction (p := s.params) (m := memWrMask s.params) (answers_writeMemForward a v)
  rw [inRestoreOrder_all s.params (by simp [restoreOrder])] at htrans
  refine htrans.mono ?_
  rintro - acts f ⟨-, rfl, ⟨as, has, rfl⟩, hf⟩
  exact ⟨⟨as, has, rfl⟩, hf⟩

theorem answers_readIoOp (hb : BusBanks p) :
    Answers p 11 11 (readIoOp port) fun v acts f => acts = readIoActs p port v ++
      cleanupActs p (ioRdMask p) [bankOf p .ctrl, bankOf p .data, bankOf p .addrLo] ∧ KeepsReport f := by
  refine answers_depends (f := fun s => transaction (ioRdMask s.params) (readIoForward s.params port)) fun s hs => ?_
  subst hs
  have htrans := answers_transaction (p := s.params) (m := ioRdMask s.params) (answers_readIoForward port)
  rw [inRestoreOrder_io hb (by simp)] at htrans
  refine htrans.mono ?_
  rintro v acts f ⟨-, rfl, rfl, hf⟩
  exact ⟨rfl, hf⟩

theorem answers_writeIoOp (hb : BusBanks p) :
    Answers p 11 11 (writeIoOp port v) fun _ acts f => (∃ as ∈ strobeRuns p (ioWrMask p) (some (.ioWrite port v)),
      acts = writeIoDrives p port v ++ as ++
        cleanupActs p (ioWrMask p) [bankOf p .ctrl, bankOf p .data, bankOf p .addrLo]) ∧ KeepsReport f := by
  refine answers_depends (f := fun s => transaction (ioWrMask s.params) (writeIoForward s.params port v)) fun s hs => ?_
  subst hs
  have htrans := answers_transaction (p := s.params) (m := ioWrMask s.params) (answers_writeIoForward port v)
  rw [inRestoreOrder_io hb (by simp [or_comm])] at htrans
  refine htrans.mono ?_
  rintro - acts f ⟨-, rfl, ⟨as, has, rfl⟩, hf⟩
  exact ⟨⟨as, has, rfl⟩, hf⟩

/-! ## Traces and registers of a transaction -/

variable {id id' : BankId} {m : Byte} {e : Event} {as : List Action} {x : BankRegs}

@[simp] theorem map_event_writeBank (w : Byte) :
    (writeBankActs p id w m).map (Action.event p) = writeBankTrace p id w m := by
  unfold writeBankActs writeBankTrace
  cases p.writeOrder <;> rfl

@[simp] theorem map_event_readBank (w : Byte) : (readBankActs p id w).map (Action.event p) = readBankTrace p id w := rfl

@[simp] theorem map_event_restores (ids : List BankId) :
    (restoresActs p ids).map (Action.event p) = ids.flatMap (restoreTrace p) := by
  rw [restoresActs, List.map_flatMap]
  rfl

theorem portTrace_restores (ids : List BankId) : portTrace p (restoresActs p ids) = ids.flatMap (restoreTrace p) := by
  rw [portTrace, map_event_restores, List.filter_eq_self]
  intro e he
  obtain ⟨id, -, he⟩ := List.mem_flatMap.1 he
  rw [List.mem_singleton.1 he]
  rfl

theorem cycleTrace_restores (ids : List BankId) : cycleTrace p (restoresActs p ids) = [] := by
  rw [cycleTrace, map_event_restores, List.filter_eq_nil_iff]
  intro e he
  obtain ⟨id, -, he⟩ := List.mem_flatMap.1 he
  rw [List.mem_singleton.1 he]
  exact Bool.false_ne_true

theorem portTrace_strobeRuns (he : isPortAction e = false) (has : as ∈ strobeRuns p m (some e)) :
    portTrace p as = strobeTrace p m := by
  unfold strobeRuns at has
  unfold strobeTrace writeBankTrace
  cases ho : p.writeOrder <;> simp only [ho, List.mem_cons, List.not_mem_nil, or_false] at has
  · subst has; simp [eventActs, portTrace_cycle _ he, writeBankTrace, ho]
  · rcases has with rfl | rfl <;> simp only [eventActs, portTrace_append, portTrace_cycle _ he] <;> rfl

theorem cycleTrace_strobeRuns (he : isBusCycle e = true) (has : as ∈ strobeRuns p m (some e)) :
    cycleTrace p as = [e] := by
  unfold strobeRuns at has
  cases ho : p.writeOrder <;> simp only [ho, List.mem_cons, List.not_mem_nil, or_false] at has
  · subst has; simp [eventActs, cycleTrace_cycle _ he]
  · rcases has with rfl | rfl <;> simp only [eventActs, cycleTrace_append, cycleTrace_cycle _ he] <;> rfl

theorem map_event_strobeRuns (has : as ∈ strobeRuns p m (some e)) :
    as.map (Action.event p) ∈ strobeCycleTraces p m e := by
  unfold strobeRuns at has
  unfold strobeCycleTraces strobeTrace writeBankTrace
  cases ho : p.writeOrder <;> simp only [ho, List.mem_cons, List.not_mem_nil, or_false] at has
  · subst has; simp [eventActs, Action.event, writeBankTrace, ho]
  · rcases has with rfl | rfl
    · exact List.mem_cons_self ..
    · exact List.mem_cons_of_mem _ (List.mem_cons_self ..)

theorem bankAfter_strobeRuns (has : as ∈ strobeRuns p m (some e)) :
    bankAfter id as x =
      if id = bankOf p .ctrl then { x with iodir := dirVal p m, olat := ctrlValue p m } else x := by
  unfold strobeRuns at has
  cases ho : p.writeOrder <;> simp only [ho, List.mem_cons, List.not_mem_nil, or_false] at has
  · subst has
    rw [bankAfter_append, bankAfter_writeBank]
    rfl
  · have hboth (y : BankRegs) : bankAfter id [.write (bankOf p .ctrl).chip (.olat (bankOf p .ctrl).bank) (ctrlValue p m)]
        (bankAfter id [.write (bankOf p .ctrl).chip (.iodir (bankOf p .ctrl).bank) (dirVal p m)] y) =
        if id = bankOf p .ctrl then { y with iodir := dirVal p m, olat := ctrlValue p m } else y := by
      rw [bankAfter_writeDir, bankAfter_writeLatch]
      split <;> rfl
    rcases has with rfl | rfl <;> exact hboth x

theorem proper_strobeRuns (hp : chipPresent p.numChips (bankOf p .ctrl).chip = true)
    (has : as ∈ strobeRuns p m (some e)) : ∀ a ∈ as, a.Proper p := by
  have hdir : Action.Proper p (.write (bankOf p .ctrl).chip (.iodir (bankOf p .ctrl).bank) (dirVal p m)) := ⟨hp, nofun⟩
  have hlatch : Action.Proper p (.write (bankOf p .ctrl).chip (.olat (bankOf p .ctrl).bank) (ctrlValue p m)) :=
    ⟨hp, nofun⟩
  unfold strobeRuns at has
  intro a ha
  cases ho : p.writeOrder <;> simp only [ho, List.mem_cons, List.not_mem_nil, or_false] at has
  · subst has
    rcases List.mem_append.1 ha with ha | ha
    · exact proper_writeBankActs hp _ _ a ha
    · rw [List.mem_singleton.1 ha]; trivial
  · rcases has with rfl | rfl <;> simp only [eventActs, List.mem_append, List.mem_cons, List.not_mem_nil, or_false] at ha
    · rcases ha with (rfl | rfl) | rfl <;> trivial
    · rcases ha with (rfl | rfl) | rfl <;> trivial

end

end Sys2Proof.Machine

/-! # The results of the four transactions (R232 to R235) -/

namespace Sys2Proof.Machine

section
variable {p : Params}

theorem restoresTrace_eq (ns : List SignalName) :
    (ns.map (bankOf p)).flatMap (restoreTrace p) = restoresTrace p ns := by
  rw [restoresTrace, List.flatMap_map]

theorem proper_cleanupActs (hb : BusBanks p) (m : Byte) {ns : List SignalName}
    (hns : ns ⊆ [SignalName.addrLo, .addrHi, .data, .ctrl]) :
    ∀ a ∈ cleanupActs p m (ns.map (bankOf p)), a.Proper p := by
  intro a ha
  rcases List.mem_append.1 ha with ha | ha
  · exact proper_writeBankActs (hb.present _ (by simp)) _ _ a ha
  · refine proper_restoresActs (fun id hid => ?_) a ha
    obtain ⟨n, hn, rfl⟩ := List.mem_map.1 hid
    exact hb.present n (hns hn)

theorem bankAfter_cleanupActs (m : Byte) (ids : List BankId) (id : BankId) (x : BankRegs) :
    bankAfter id (cleanupActs p m ids) x =
      let y := if id = bankOf p .ctrl then { x with iodir := dirVal p m, olat := ctrlValue p 0#8 } else x
      if id ∈ ids then madeInput p y else y := by
  rw [cleanupActs, bankAfter_append, bankAfter_writeBank, bankAfter_restores]

theorem portTrace_cleanupActs (m : Byte) (ns : List SignalName) :
    portTrace p (cleanupActs p m (ns.map (bankOf p))) = deassertTrace p m ++ restoresTrace p ns := by
  rw [cleanupActs, portTrace_append, portTrace_writeBank, portTrace_restores, restoresTrace_eq]
  rfl

theorem cycleTrace_cleanupActs (m : Byte) (ids : List BankId) : cycleTrace p (cleanupActs p m ids) = [] := by
  rw [cleanupActs, cycleTrace_append, cycleTrace_writeBank, cycleTrace_restores]
  rfl

theorem map_event_cleanupActs (m : Byte) (ns : List SignalName) :
    (cleanupActs p m (ns.map (bankOf p))).map (Action.event p) = deassertTrace p m ++ restoresTrace p ns := by
  rw [cleanupActs, List.map_append, map_event_writeBank, map_event_restores, restoresTrace_eq]
  rfl

end

/-- A transaction's precondition holds (R230). -/
theorem transaction_body {o : Op (BitVec 16 × Byte)} {i : Instr} {s : State} (hi : commandBody i = precheck true o)
    (hc : s.configured = true) (ho : s.arb = .owned) (q : Option Sequencer) :
    commandBody i (setSeq q s) = o (setSeq q s) := by
  rw [hi]
  exact precheck_passes hc fun _ => ho

theorem proper_append {p : Params} {as bs : List Action} (ha : ∀ a ∈ as, a.Proper p) (hb : ∀ a ∈ bs, a.Proper p) :
    ∀ a ∈ as ++ bs, a.Proper p := fun a h => (List.mem_append.1 h).elim (ha a) (hb a)

theorem proper_cycle {p : Params} (e : Event) : ∀ a ∈ [Action.cycle e], a.Proper p := by
  intro a ha
  rw [List.mem_singleton.1 ha]
  trivial

section
variable {p : Params} (hb : BusBanks p) (a : Addr) (port v : Byte)
include hb

theorem proper_drive {n : SignalName} (hn : n ∈ [SignalName.addrLo, .addrHi, .data, .ctrl]) (w m : Byte) :
    ∀ x ∈ writeBankActs p (bankOf p n) w m, x.Proper p := proper_writeBankActs (hb.present n hn) w m

theorem proper_readMemActs : ∀ x ∈ readMemActs p a v, x.Proper p :=
  proper_append (proper_append (proper_append (proper_append (proper_drive hb (by simp) _ _) (proper_drive hb (by simp) _ _))
    (proper_drive hb (by simp) _ _)) (proper_readBankActs (hb.present _ (by simp)) _)) (proper_cycle _)

theorem proper_readIoActs : ∀ x ∈ readIoActs p port v, x.Proper p :=
  proper_append (proper_append (proper_append (proper_drive hb (by simp) _ _) (proper_drive hb (by simp) _ _))
    (proper_readBankActs (hb.present _ (by simp)) _)) (proper_cycle _)

theorem proper_writeMemDrives : ∀ x ∈ writeMemDrives p a v, x.Proper p :=
  proper_append (proper_append (proper_drive hb (by simp) _ _) (proper_drive hb (by simp) _ _))
    (proper_drive hb (by simp) _ _)

theorem proper_writeIoDrives : ∀ x ∈ writeIoDrives p port v, x.Proper p :=
  proper_append (proper_drive hb (by simp) _ _) (proper_drive hb (by simp) _ _)

end

/-- The restores of a memory transaction, as signals. -/
theorem cleanupActs_all (p : Params) (m : Byte) :
    cleanupActs p m (restoreOrder p) = cleanupActs p m ([SignalName.ctrl, .data, .addrHi, .addrLo].map (bankOf p)) := rfl

/-- The restores of an I/O transaction, as signals. -/
theorem cleanupActs_io (p : Params) (m : Byte) : cleanupActs p m [bankOf p .ctrl, bankOf p .data, bankOf p .addrLo] =
    cleanupActs p m ([SignalName.ctrl, .data, .addrLo].map (bankOf p)) := rfl

theorem proper_cleanupActs_all {p : Params} (hb : BusBanks p) (m : Byte) :
    ∀ a ∈ cleanupActs p m (restoreOrder p), a.Proper p :=
  cleanupActs_all p m ▸ proper_cleanupActs hb m (ns := [.ctrl, .data, .addrHi, .addrLo]) (by simp)

theorem proper_cleanupActs_io {p : Params} (hb : BusBanks p) (m : Byte) :
    ∀ a ∈ cleanupActs p m [bankOf p .ctrl, bankOf p .data, bankOf p .addrLo], a.Proper p :=
  cleanupActs_io p m ▸ proper_cleanupActs hb m (ns := [.ctrl, .data, .addrLo]) (by simp)

/-- A bank is one of the four bus-facing ones, or none of them. -/
theorem bank_cases (p : Params) {P : BankId → Prop} (lo : P (bankOf p .addrLo))
    (hi : P (bankOf p .addrHi)) (data : P (bankOf p .data)) (ctrl : P (bankOf p .ctrl))
    (other : ∀ id, id ≠ bankOf p .addrLo → id ≠ bankOf p .addrHi → id ≠ bankOf p .ctrl → id ≠ bankOf p .data → P id)
    (id : BankId) : P id := by
  by_cases h1 : id = bankOf p .addrLo
  · rwa [h1]
  · by_cases h2 : id = bankOf p .addrHi
    · rwa [h2]
    · by_cases h3 : id = bankOf p .ctrl
      · rwa [h3]
      · by_cases h4 : id = bankOf p .data
        · rwa [h4]
        · exact other id h1 h2 h3 h4

section
variable {p : Params} (a : Addr) (v : Byte)

/-- The transfers of `readMemory` (R232). -/
theorem portTrace_readMem :
    portTrace p (readMemActs p a v ++ cleanupActs p (memRdMask p) (restoreOrder p)) = readMemTrace p a v := by
  rw [cleanupActs_all, portTrace_append, portTrace_cleanupActs]
  simp [readMemActs, readMemTrace, driveTrace, strobeTrace, portTrace_cycle, isPortAction, isTransfer, isGpio]

theorem cycleTrace_readMem :
    cycleTrace p (readMemActs p a v ++ cleanupActs p (memRdMask p) (restoreOrder p)) = [.memRead a v] := by
  rw [cycleTrace_append, cycleTrace_cleanupActs]
  simp only [readMemActs, cycleTrace_append, cycleTrace_writeBank, cycleTrace_readBank]
  rfl

variable {as : List Action} (has : as ∈ strobeRuns p (memWrMask p) (some (.memWrite a v)))
include has

/-- The transfers of `writeMemory` (R233). -/
theorem portTrace_writeMem :
    portTrace p (writeMemDrives p a v ++ as ++ cleanupActs p (memWrMask p) (restoreOrder p)) = writeMemTrace p a v := by
  rw [cleanupActs_all, portTrace_append, portTrace_append, portTrace_cleanupActs, portTrace_strobeRuns rfl has]
  simp [writeMemDrives, writeMemTrace, driveTrace]

theorem cycleTrace_writeMem :
    cycleTrace p (writeMemDrives p a v ++ as ++ cleanupActs p (memWrMask p) (restoreOrder p)) = [.memWrite a v] := by
  rw [cycleTrace_append, cycleTrace_append, cycleTrace_cleanupActs, cycleTrace_strobeRuns rfl has]
  simp [writeMemDrives]

end

/-- Settles O27: the command's body is `readMemory`. -/
theorem readMemResult : Obligations.ReadMemResult := by
  intro s a hreg hc ho ha
  have hb := busBanks_of_registryOk hreg
  obtain ⟨d, t, acts, f, he, had, rfl, -⟩ := exec_inD8 (i := .readMem a) rfl hreg
    (transaction_body rfl hc ho) (answers_readMemoryOp a) (fun _ _ _ h => h.2) ha
  refine ⟨t, d, he, had.response, had.portActions_eq (portTrace_readMem a d),
    had.busCycles.trans (cycleTrace_readMem a d), ?_, sameBlock_of_exec he rfl fun _ => rfl, had.seq,
    sameIocon_of_exec he nofun, fun hd id => ?_⟩
  · rw [had.both, cleanupActs_all, List.map_append, map_event_cleanupActs]
    simp [readMemActs, driveTrace, strobeTrace, Action.event]
  · rw [had.bankRegs hd (proper_append (proper_readMemActs hb a d) (proper_cleanupActs_all hb _))]
    simp only [readMemActs, bankAfter_append, bankAfter_writeBank, bankAfter_readBank, bankAfter_cycle,
      bankAfter_cleanupActs, restoreOrder, List.mem_cons, List.not_mem_nil, or_false]
    induction id using bank_cases s.params with
    | lo => simp [hb.lo_hi, hb.lo_data, hb.lo_ctrl, drivenAndRestored, madeInput]
    | hi => simp [hb.lo_hi.symm, hb.hi_data, hb.hi_ctrl, drivenAndRestored, madeInput]
    | data => simp [hb.lo_data.symm, hb.hi_data.symm, hb.data_ctrl, madeInput]
    | ctrl => simp [hb.lo_ctrl.symm, hb.hi_ctrl.symm, hb.data_ctrl.symm, drivenAndRestored, madeInput]
    | other id h1 h2 h3 h4 => simp [h1, h2, h3, h4]

/-- Settles O28: the command's body is `writeMemory`. -/
theorem writeMemResult : Obligations.WriteMemResult := by
  intro s a v hreg hc ho ha
  have hb := busBanks_of_registryOk hreg
  obtain ⟨t, acts, f, he, had, ⟨as, has, rfl⟩, -⟩ := exec_noData (i := .writeMem a v) rfl hreg
    (transaction_body rfl hc ho) (answers_writeMemoryOp a v) (fun _ _ h => h.2) ha
  refine ⟨t, he, had.response, had.portActions_eq (portTrace_writeMem a v has),
    had.busCycles.trans (cycleTrace_writeMem a v has), ⟨_, map_event_strobeRuns has, ?_⟩,
    sameBlock_of_exec he rfl fun _ => rfl, had.seq, sameIocon_of_exec he nofun, fun hd id => ?_⟩
  · rw [had.both, cleanupActs_all, List.map_append, List.map_append, map_event_cleanupActs]
    simp [writeMemDrives, driveTrace]
  · rw [had.bankRegs hd (proper_append (proper_append (proper_writeMemDrives hb a v)
      (proper_strobeRuns (hb.present _ (by simp)) has)) (proper_cleanupActs_all hb _))]
    simp only [writeMemDrives, bankAfter_append, bankAfter_writeBank, bankAfter_strobeRuns has, bankAfter_cleanupActs,
      restoreOrder, List.mem_cons, List.not_mem_nil, or_false]
    induction id using bank_cases s.params with
    | lo => simp [hb.lo_hi, hb.lo_data, hb.lo_ctrl, drivenAndRestored, madeInput]
    | hi => simp [hb.lo_hi.symm, hb.hi_data, hb.hi_ctrl, drivenAndRestored, madeInput]
    | data => simp [hb.lo_data.symm, hb.hi_data.symm, hb.data_ctrl, drivenAndRestored, madeInput]
    | ctrl => simp [hb.lo_ctrl.symm, hb.hi_ctrl.symm, hb.data_ctrl.symm, drivenAndRestored, madeInput]
    | other id h1 h2 h3 h4 => simp [h1, h2, h3, h4]

/-- Settles O29: the command's body is `readIo`. -/
theorem readIoResult : Obligations.ReadIoResult := by
  intro s port hreg hc ho ha
  have hb := busBanks_of_registryOk hreg
  obtain ⟨d, t, acts, f, he, had, rfl, -⟩ := exec_inD8 (i := .readIo port) rfl hreg
    (transaction_body rfl hc ho) (answers_readIoOp port hb) (fun _ _ _ h => h.2) ha
  refine ⟨t, d, he, had.response, ?_, ?_, ?_, sameBlock_of_exec he rfl fun _ => rfl, had.seq,
    sameIocon_of_exec he nofun, fun hd id => ?_⟩
  · rw [had.portActions, cleanupActs_io, portTrace_append, portTrace_cleanupActs]
    simp [readIoActs, readIoTrace, driveTrace, strobeTrace, portTrace_cycle, isPortAction, isTransfer, isGpio]
  · rw [had.busCycles, cycleTrace_append, cycleTrace_cleanupActs]
    simp only [readIoActs, cycleTrace_append, cycleTrace_writeBank, cycleTrace_readBank]
    rfl
  · rw [had.both, cleanupActs_io, List.map_append, map_event_cleanupActs]
    simp [readIoActs, driveTrace, strobeTrace, Action.event]
  · rw [had.bankRegs hd (proper_append (proper_readIoActs hb port d) (proper_cleanupActs_io hb _))]
    simp only [readIoActs, bankAfter_append, bankAfter_writeBank, bankAfter_readBank, bankAfter_cycle,
      bankAfter_cleanupActs, List.mem_cons, List.not_mem_nil, or_false]
    induction id using bank_cases s.params with
    | lo => simp [hb.lo_data, hb.lo_ctrl, drivenAndRestored, madeInput]
    | hi => simp [hb.lo_hi.symm, hb.hi_data, hb.hi_ctrl]
    | data => simp [hb.lo_data.symm, hb.data_ctrl, madeInput]
    | ctrl => simp [hb.lo_ctrl.symm, hb.data_ctrl.symm, drivenAndRestored, madeInput]
    | other id h1 h2 h3 h4 => simp [h1, h3, h4]

/-- Settles O30: the command's body is `writeIo`. -/
theorem writeIoResult : Obligations.WriteIoResult := by
  intro s port v hreg hc ho ha
  have hb := busBanks_of_registryOk hreg
  obtain ⟨t, acts, f, he, had, ⟨as, has, rfl⟩, -⟩ := exec_noData (i := .writeIo port v) rfl hreg
    (transaction_body rfl hc ho) (answers_writeIoOp port v hb) (fun _ _ h => h.2) ha
  refine ⟨t, he, had.response, ?_, ?_, ⟨_, map_event_strobeRuns has, ?_⟩, sameBlock_of_exec he rfl fun _ => rfl, had.seq,
    sameIocon_of_exec he nofun, fun hd id => ?_⟩
  · rw [had.portActions, cleanupActs_io, portTrace_append, portTrace_append, portTrace_cleanupActs,
      portTrace_strobeRuns rfl has]
    simp [writeIoDrives, writeIoTrace, driveTrace]
  · rw [had.busCycles, cycleTrace_append, cycleTrace_append, cycleTrace_cleanupActs, cycleTrace_strobeRuns rfl has]
    simp [writeIoDrives]
  · rw [had.both, cleanupActs_io, List.map_append, List.map_append, map_event_cleanupActs]
    simp [writeIoDrives, driveTrace]
  · rw [had.bankRegs hd (proper_append (proper_append (proper_writeIoDrives hb port v)
      (proper_strobeRuns (hb.present _ (by simp)) has)) (proper_cleanupActs_io hb _))]
    simp only [writeIoDrives, bankAfter_append, bankAfter_writeBank, bankAfter_strobeRuns has, bankAfter_cleanupActs,
      List.mem_cons, List.not_mem_nil, or_false]
    induction id using bank_cases s.params with
    | lo => simp [hb.lo_data, hb.lo_ctrl, drivenAndRestored, madeInput]
    | hi => simp [hb.lo_hi.symm, hb.hi_data, hb.hi_ctrl]
    | data => simp [hb.lo_data.symm, hb.data_ctrl, drivenAndRestored, madeInput]
    | ctrl => simp [hb.lo_ctrl.symm, hb.data_ctrl.symm, drivenAndRestored, madeInput]
    | other id h1 h2 h3 h4 => simp [h1, h3, h4]

end Sys2Proof.Machine

/-! # `RELEASE` (R206 to R208) -/

namespace Sys2Proof.Machine

/-! ## Restores that may fail -/

/-- The restore of a bank under the answer to its transfer (R170, R175). -/
def tryActs (p : Params) (id : BankId) : XferDraw → List Action
  | .err v => [.failWrite id.chip (.iodir id.bank) (allIn p) v]
  | _ => restoreActs p id

/-- Restores of several banks under the answers to their transfers. -/
def triesActs (p : Params) : List BankId → (Nat → XferDraw) → List Action
  | [], _ => []
  | id :: ids, x => tryActs p id (x 0) ++ triesActs p ids fun i => x (i + 1)

theorem did_tryRestore (id : BankId) {s : State} (h : (drawAt s 0).xfer ≠ .hang) :
    ∃ r t f, restoreBank id s = (r, t) ∧ r ≠ .hung ∧ Did (tryActs s.params id (drawAt s 0).xfer) f s t := by
  cases hx : (drawAt s 0).xfer with
  | ok =>
    obtain ⟨t, e, hd⟩ := did_restoreBank id hx
    exact ⟨_, t, _, e, nofun, hd⟩
  | err v =>
    obtain ⟨t, e, hd⟩ := did_xferW_err id.chip (.iodir id.bank) (allIn s.params) (s := touch id s) hx
    exact ⟨_, t, _, e, nofun, (did_touch id s).trans hd⟩
  | hang => exact absurd hx h

theorem portCount_tryActs (p : Params) (id : BankId) (x : XferDraw) : portCount (tryActs p id x) = 1 := by
  cases x <;> rfl

theorem did_tryRestores (ids : List BankId) {s : State} (h : NothingHangs ids.length s) :
    ∃ r t f, attemptAll (ids.map restoreBank) s = (r, t) ∧ r ≠ .hung ∧
      Did (triesActs s.params ids fun i => (drawAt s i).xfer) f s t := by
  induction ids generalizing s with
  | nil => exact ⟨_, s, id, rfl, nofun, Did.refl s⟩
  | cons id ids ih =>
    obtain ⟨r, m, f, e, hr, hd⟩ := did_tryRestore id (h 0 (Nat.succ_pos _))
    have hdraw (i : Nat) : drawAt m i = drawAt s (i + 1) := by
      rw [hd.draws, show (List.filter _ _).length = 1 from portCount_tryActs .., Nat.add_comm]
    obtain ⟨r', t, g, e', hr', hd'⟩ := ih (s := m) fun i hi => by rw [hdraw]; exact h _ (Nat.succ_lt_succ hi)
    simp only [hdraw, hd.params] at hd'
    have hrun := hd.trans hd'
    simp only [List.map_cons, attemptAll, e]
    cases r with
    | ok a => exact ⟨r', t, _, e', hr', hrun⟩
    | failed x =>
      refine ⟨.failed x, t, _, ?_, nofun, hrun⟩
      simp only [e']
    | hung => exact absurd rfl hr

/-- Restores that are all answered. -/
theorem triesActs_of_ok {p : Params} {ids : List BankId} {x : Nat → XferDraw} (h : ∀ i < ids.length, x i = .ok) :
    triesActs p ids x = restoresActs p ids := by
  induction ids generalizing x with
  | nil => rfl
  | cons id ids ih =>
    rw [triesActs, ih fun i hi => h (i + 1) (Nat.succ_lt_succ hi), h 0 (Nat.succ_pos _)]
    rfl

theorem portTrace_triesActs {p : Params} {ids : List BankId} {x : Nat → XferDraw} (h : ∀ i < ids.length, x i ≠ .hang) :
    portTrace p (triesActs p ids x) = List.zipWith (fun e ok => if ok then e else asFailed e)
      (ids.flatMap (restoreTrace p)) ((List.range ids.length).map fun i => x i == .ok) := by
  induction ids generalizing x with
  | nil => rfl
  | cons id ids ih =>
    rw [triesActs, portTrace_append, ih fun i hi => h (i + 1) (Nat.succ_lt_succ hi), List.length_cons,
      List.range_succ_eq_map, List.flatMap_cons, List.map_cons, List.map_map]
    have hx := h 0 (Nat.succ_pos _)
    cases h0 : x 0 with
    | ok => rfl
    | err v => rfl
    | hang => exact absurd h0 hx

theorem cycleTrace_triesActs (p : Params) (ids : List BankId) (x : Nat → XferDraw) :
    cycleTrace p (triesActs p ids x) = [] := by
  induction ids generalizing x with
  | nil => rfl
  | cons id ids ih =>
    rw [triesActs, cycleTrace_append, ih]
    cases x 0 <;> rfl

/-! ## Pins are left alone -/

/-- The action is no pin action. -/
def Action.NoPin : Action → Prop
  | .level _ _ => False
  | .dir _ _ => False
  | .pullUp _ _ => False
  | _ => True

theorem lines_foldl_noPin {acts : List Action} (h : ∀ a ∈ acts, a.NoPin) (x : PerLine LinePin) :
    acts.foldl Action.lines x = x := by
  induction acts generalizing x with
  | nil => rfl
  | cons a acts ih =>
    have hstep : a.lines x = x := by
      have ha := h a (List.mem_cons_self ..)
      cases a
      case level | dir | pullUp => exact ha.elim
      all_goals rfl
    rw [List.foldl_cons, hstep]
    exact ih (fun b hb => h b (List.mem_cons_of_mem _ hb)) x

theorem noPin_triesActs (p : Params) (ids : List BankId) (x : Nat → XferDraw) : ∀ a ∈ triesActs p ids x, a.NoPin := by
  induction ids generalizing x with
  | nil => exact nofun
  | cons id ids ih =>
    intro a ha
    rcases List.mem_append.1 ha with ha | ha
    · cases h : x 0 <;> rw [h] at ha <;> rw [List.mem_singleton.1 ha] <;> trivial
    · exact ih _ a ha

/-! ## `release` -/

theorem did_releaseOp {s : State} (h : NothingHangs 4 s) :
    ∃ r t f, releaseOp s = (r, t) ∧ r ≠ .hung ∧
      Did (triesActs s.params (restoreOrder s.params) (fun i => (drawAt s i).xfer) ++ releaseActs s.params .busrq) f s t := by
  have harb := Did.setArb .released s
  obtain ⟨r, m, f, e, hr, hd⟩ := did_tryRestores (restoreOrder s.params) (s := setArb .released s) h
  have hline := did_lineRelease .busrq m
  rw [hd.params] at hline
  refine ⟨r, _, _, ?_, hr, (harb.trans hd).trans hline⟩
  simp only [releaseOp, e]

theorem reports_noData {o : Op Unit} (h : Has Reports o) : Has Reports (noData o) := reports_transferLaw.toOpLaw.noData h

/-- `RELEASE` when nothing hangs. -/
theorem exec_release {s : State} (hreg : registryOk s.params = true) (hc : s.configured = true) (h : NothingHangs 4 s) :
    ∃ t, exec .release s = .next t ∧ t.arb = .released ∧ t.seq = none ∧
      t.response = some (match firstFailure 0 (portActions s t) with
        | some e => errReply false e
        | none => okReply false 0#16 0#8) ∧
      Performed (triesActs s.params (restoreOrder s.params) (fun i => (drawAt s i).xfer) ++ releaseActs s.params .busrq)
        s t := by
  let s0 := setSeq (some (freshSeq .release)) s
  obtain ⟨r, m, f, e, hr, hd⟩ := did_releaseOp (s := s0) h
  have hbody : commandBody .release s0 = noData releaseOp s0 := precheck_passes hc nofun
  have hreports := reports_noData reports_releaseOp s0
  rw [← hbody] at hreports
  have hexec := (exec_command (i := .release) rfl s).trans (command_of_ok hreg)
  have hnext := (exec_command (i := .release) rfl s).symm.trans hexec
  have harb := releaseOp_arb s0
  rw [e] at harb
  cases r with
  | ok u =>
    have hb : commandBody .release s0 = (.ok (0#16, 0#8), m) := hbody.trans (noData_of_ok e)
    rw [hb] at hreports
    rcases command_reports hb hreports nofun hnext with ⟨_, heq, hresp, hfirst⟩ | ⟨_, _, heq, -⟩
    · cases heq
      rw [hb] at hexec hresp hfirst
      exact ⟨_, hexec, harb, rfl, by rw [hfirst]; exact hresp, hd.performed ⟨[_], rfl, rfl⟩ (sameWorld_respond _ m) rfl⟩
    · cases heq
  | failed x =>
    have hb : commandBody .release s0 = (.failed x, m) := hbody.trans (by simp only [noData, andThen, e])
    rw [hb] at hreports
    rcases command_reports hb hreports nofun hnext with ⟨_, heq, -⟩ | ⟨_, y, heq, hresp, hfirst⟩
    · cases heq
    · cases heq
      rw [hb] at hexec hresp hfirst
      exact ⟨_, hexec, harb, rfl, by rw [hfirst]; exact hresp, hd.performed ⟨[_], rfl, rfl⟩ (sameWorld_respond _ m) rfl⟩
  | hung => exact absurd rfl hr

theorem chips_foldl_releaseActs (p : Params) (l : Line) (as : List Action) (e : Expanders) :
    (as ++ releaseActs p l).foldl (Action.chips p) e = as.foldl (Action.chips p) e := by
  rw [List.foldl_append, chips_releaseActs]

/-- The bus-facing banks, which `release` restores. -/
theorem mem_restoreOrder_present {p : Params} (hb : BusBanks p) {id : BankId} (h : id ∈ restoreOrder p) :
    chipPresent p.numChips id.chip = true := by
  simp only [restoreOrder, List.mem_cons, List.not_mem_nil, or_false] at h
  rcases h with rfl | rfl | rfl | rfl <;> exact hb.present _ (by simp)

theorem mem_restoresActs {p : Params} {ids : List BankId} {id : BankId} (h : id ∈ ids) :
    Action.write id.chip (.iodir id.bank) (allIn p) ∈ restoresActs p ids :=
  List.mem_flatMap.2 ⟨id, h, List.mem_singleton.2 rfl⟩

/-- Settles O25: `release` attempts every restore, and its response is what its first failure makes it. -/
theorem releaseWhateverFails : Obligations.ReleaseWhateverFails := by
  intro s hreg hc h
  have hb := busBanks_of_registryOk hreg
  obtain ⟨t, he, harb, -, hresp, hperf⟩ := exec_release hreg hc h
  have hports : portActions s t = List.zipWith (fun e ok => if ok then e else asFailed e)
      (restoresTrace s.params [.ctrl, .data, .addrHi, .addrLo])
      ((List.range 4).map fun i => (drawAt s i).xfer == .ok) ++ releaseTrace s.params .busrq := by
    rw [hperf.portActions, portTrace_append, portTrace_release, portTrace_triesActs (ids := restoreOrder s.params) h]
    rfl
  have hparams := exec_keeps keeps_params he
  refine ⟨t, (List.range 4).map fun i => (drawAt s i).xfer == .ok, he, by simp, hports, fun i hi => ?_, hresp, harb, ?_,
    fun l hl => exec_keeps (keeps_line (by simpa [mayWriteLine] using hl)) he, hparams,
    (exec_keeps (keeps_configured (i := .release) nofun) he).trans hc, exec_keeps (keeps_pending rfl) he,
    sameButDirections_of_exec he nofun rfl, ?_, fun ha => ?_⟩
  · simp [hi]
  · rw [hperf.lines, List.foldl_append, lines_foldl_noPin (noPin_triesActs _ _ _), lines_releaseActs, ofLine_withLine_same]
  · rw [hperf.busCycles, cycleTrace_append, cycleTrace_release, List.append_nil]
    exact cycleTrace_triesActs ..
  · have hok : triesActs s.params (restoreOrder s.params) (fun i => (drawAt s i).xfer) =
        restoresActs s.params (restoreOrder s.params) := triesActs_of_ok ha
    have hchips : t.chips = (restoresActs s.params (restoreOrder s.params)).foldl (Action.chips s.params) s.chips := by
      rw [hperf.chips, chips_foldl_releaseActs, hok]
    refine ⟨fun n hn => blockDrive_of_allIn ?_, fun hd id => ?_⟩
    · rw [hparams, hchips]
      have hmem : bankOf s.params n ∈ restoreOrder s.params := List.mem_map_of_mem (f := bankOf s.params) hn
      exact iodir_foldl_of_mem (mem_restoreOrder_present hb hmem) (allIn_restoresActs _) (mem_restoresActs hmem)
    · rw [hchips, bankRegs_foldl (decoding_of_chipsDecode hd)
        (proper_restoresActs fun id hid => mem_restoreOrder_present hb hid), bankAfter_restores]

/-! ## A second `RELEASE` -/

/-- One of the writes reaches the direction register of a bank. -/
def reachesDir (p : Params) (e : Expanders) (ids : List BankId) (id : BankId) : Prop :=
  ∃ x ∈ ids, answers p e x.chip id.chip = true ∧ x.bank = id.bank

theorem answers_congr {p : Params} {e e' : Expanders} (h : ∀ c, (chipRegs e' c).iocon = (chipRegs e c).iocon) :
    answers p e' = answers p e := by
  funext c c'
  rw [answers, answers, h]

theorem bankRegs_restore (p : Params) (e : Expanders) (x id : BankId) :
    bankRegs (writeReg p e x.chip (.iodir x.bank) (allIn p)) id =
      if answers p e x.chip id.chip = true ∧ x.bank = id.bank then madeInput p (bankRegs e id) else bankRegs e id := by
  rw [bankRegs_writeReg]
  by_cases ha : answers p e x.chip id.chip = true <;> by_cases hk : x.bank = id.bank <;>
    simp [ha, hk, writeBankRegs, madeInput, eq_comm]

theorem iocon_restores (p : Params) (ids : List BankId) (e : Expanders) (c : ChipId) :
    (chipRegs ((restoresActs p ids).foldl (Action.chips p) e) c).iocon = (chipRegs e c).iocon := by
  induction ids generalizing e with
  | nil => rfl
  | cons id ids ih =>
    refine (ih _).trans ?_
    exact (chips_keep e id.chip (.iodir id.bank) (allIn p) (g := ChipRegs.iocon) (fun _ => withPort_iocon ..) p c).1

open Classical in
/-- After restores, which chips answer decides what is all-input. -/
theorem bankRegs_restores (p : Params) (ids : List BankId) (e : Expanders) (id : BankId) :
    bankRegs ((restoresActs p ids).foldl (Action.chips p) e) id =
      if reachesDir p e ids id then madeInput p (bankRegs e id) else bankRegs e id := by
  induction ids generalizing e with
  | nil => simp [reachesDir, restoresActs]
  | cons x ids ih =>
    have hiocon (c : ChipId) : (chipRegs (writeReg p e x.chip (.iodir x.bank) (allIn p)) c).iocon = (chipRegs e c).iocon :=
      (chips_keep e x.chip (.iodir x.bank) (allIn p) (g := ChipRegs.iocon) (fun _ => withPort_iocon ..) p c).1
    refine (ih _).trans ?_
    have hreach : reachesDir p (writeReg p e x.chip (.iodir x.bank) (allIn p)) ids id ↔ reachesDir p e ids id := by
      rw [reachesDir, answers_congr hiocon, reachesDir]
    have hcons : reachesDir p e (x :: ids) id ↔
        (answers p e x.chip id.chip = true ∧ x.bank = id.bank) ∨ reachesDir p e ids id := by
      simp [reachesDir]
    change (if reachesDir p (writeReg p e x.chip (.iodir x.bank) (allIn p)) ids id then
      madeInput p (bankRegs (writeReg p e x.chip (.iodir x.bank) (allIn p)) id)
      else bankRegs (writeReg p e x.chip (.iodir x.bank) (allIn p)) id) = _
    simp only [hreach, hcons, bankRegs_restore]
    by_cases h1 : answers p e x.chip id.chip = true ∧ x.bank = id.bank <;> by_cases h2 : reachesDir p e ids id <;>
      simp [h1, h2, madeInput]

theorem chips_ext {e e' : Expanders} (hc : ∀ c, (chipRegs e c).iocon = (chipRegs e' c).iocon)
    (hb : ∀ id, bankRegs e id = bankRegs e' id) : e = e' := by
  have hchip (c : ChipId) : chipRegs e c = chipRegs e' c := by
    have h1 := hc c
    have h2 := hb ⟨c, .portA⟩
    have h3 := hb ⟨c, .portB⟩
    simp only [bankRegs, portRegs] at h2 h3
    cases hx : chipRegs e c
    cases hy : chipRegs e' c
    simp_all
  cases e
  cases e'
  have h0 := hchip .chip0
  have h1 := hchip .chip1
  have h2 := hchip .chip2
  simp_all [chipRegs]

/-- Restoring twice is restoring once. -/
theorem restores_idempotent (p : Params) (ids : List BankId) (e : Expanders) :
    (restoresActs p ids).foldl (Action.chips p) ((restoresActs p ids).foldl (Action.chips p) e) =
      (restoresActs p ids).foldl (Action.chips p) e := by
  refine chips_ext (fun c => iocon_restores ..) fun id => ?_
  have hreach : reachesDir p ((restoresActs p ids).foldl (Action.chips p) e) ids id ↔ reachesDir p e ids id := by
    rw [reachesDir, answers_congr (iocon_restores p ids e), reachesDir]
  classical
  rw [bankRegs_restores, bankRegs_restores]
  simp only [hreach]
  split <;> rfl

theorem releasedPin_idem (p : Params) (l : Line) (x : LinePin) :
    releasedPin p l (releasedPin p l x) = releasedPin p l x := by
  unfold releasedPin
  split <;> rfl

theorem portCount_triesActs (p : Params) (ids : List BankId) (x : Nat → XferDraw) :
    portCount (triesActs p ids x) = ids.length := by
  induction ids generalizing x with
  | nil => rfl
  | cons id ids ih => rw [triesActs, portCount_append, portCount_tryActs, ih, List.length_cons, Nat.add_comm]

theorem portCount_release_le (p : Params) (x : Nat → XferDraw) :
    portCount (triesActs p (restoreOrder p) x ++ releaseActs p .busrq) ≤ 6 := by
  have hline : (releaseActs p .busrq).length ≤ 2 := by
    unfold releaseActs
    split <;> decide
  rw [portCount_append, portCount_triesActs, portCount_releaseActs]
  exact Nat.add_le_add_left hline 4

/-- Settles O26: the second `RELEASE` writes what is there already. -/
theorem releaseTwiceChangesNothing : Obligations.ReleaseTwiceChangesNothing := by
  intro s t u hc ha hst htu
  have hreg : registryOk s.params = true := (command_next ((exec_command (i := .release) rfl s).symm.trans hst)).1
  obtain ⟨t', ht', harb, hseq, hresp, hperf⟩ := exec_release hreg hc fun i hi => by rw [ha i (by omega)]; nofun
  obtain rfl : t = t' := by rw [hst] at ht'; cases ht'; rfl
  have hparams := exec_keeps keeps_params hst
  have hlen := portCount_release_le s.params fun i => (drawAt s i).xfer
  have ha' : TransfersAnswered 4 t := fun i hi => by rw [hperf.draws]; exact ha _ (by unfold portCount at hlen; omega)
  have hok : triesActs s.params (restoreOrder s.params) (fun i => (drawAt s i).xfer) =
      restoresActs s.params (restoreOrder s.params) := triesActs_of_ok fun i hi => ha i (Nat.lt_of_lt_of_le hi (by simp [restoreOrder]))
  have hok' : triesActs t.params (restoreOrder t.params) (fun i => (drawAt t i).xfer) =
      restoresActs s.params (restoreOrder s.params) := by rw [hparams]; exact triesActs_of_ok ha'
  obtain ⟨u', hu', harb', hseq', hresp', hperf'⟩ := exec_release (s := t) (by rw [hparams]; exact hreg)
    ((exec_keeps (keeps_configured (i := .release) nofun) hst).trans hc) fun i hi => by rw [ha' i hi]; nofun
  obtain rfl : u = u' := by rw [htu] at hu'; cases hu'; rfl
  rw [hok] at hperf
  rw [hok', hparams] at hperf'
  have hports : portActions t u = portActions s t := by rw [hperf'.portActions, hperf.portActions, hparams]
  refine ⟨hports, ?_, ?_, harb'.trans harb.symm, exec_keeps (keeps_configured (i := .release) nofun) htu,
    exec_keeps (keeps_pending rfl) htu, hseq'.trans hseq.symm, by rw [hresp', hresp, hports]⟩
  · rw [hperf'.chips, hperf.chips, hparams, chips_foldl_releaseActs, chips_foldl_releaseActs, restores_idempotent]
  · have hpins : ∀ a ∈ restoresActs s.params (restoreOrder s.params), a.NoPin := hok ▸ noPin_triesActs _ _ _
    rw [hperf'.lines, hperf.lines, List.foldl_append, List.foldl_append, lines_foldl_noPin hpins, lines_foldl_noPin hpins,
      lines_releaseActs, lines_releaseActs, ofLine_withLine_same, releasedPin_idem]
    rfl

end Sys2Proof.Machine

/-! # `GRAB` with its transfers answered (R201 to R204) -/

namespace Sys2Proof.Machine

/-- The actions of the polls that read `polls` (R201). -/
def pollActs (p : Params) (polls : List Byte) : List Action := polls.flatMap (readBankActs p (bankOf p .ctrl))

/-- The bytes read by the polls of a `grab` of at most `n` polls: `granted` when the last one, and none before it, had BUSAK
Active (R201). -/
structure Polled (p : Params) (n : Nat) (granted : Bool) (polls : List Byte) : Prop where
  length_le : polls.length ≤ n
  before : ∀ v ∈ polls.dropLast, busakActive p v = false
  last : granted = true → polls.getLast?.any (busakActive p) = true
  all : granted = false → polls.all (fun v => !busakActive p v) = true ∧ polls.length = n

theorem polled_single {p : Params} {n : Nat} {v : Byte} (hv : busakActive p v = true) : Polled p (n + 1) true [v] :=
  ⟨by simp, by simp, fun _ => by simpa using hv, nofun⟩

theorem Polled.cons {p : Params} {n : Nat} {b : Bool} {polls : List Byte} {v : Byte} (h : Polled p n b polls)
    (hv : busakActive p v = false) : Polled p (n + 1) b (v :: polls) where
  length_le := Nat.succ_le_succ h.length_le
  before w hw := by
    cases polls with
    | nil => cases hw
    | cons x xs =>
      rcases List.mem_cons.1 hw with rfl | hw
      · exact hv
      · exact h.before w hw
  last hb := by
    have hl := h.last hb
    cases polls with
    | nil => cases hl
    | cons x xs => exact hl
  all hb := by
    obtain ⟨h1, h2⟩ := h.all hb
    exact ⟨by simp [hv, h1], by simp [h2]⟩

theorem portCount_pollActs (p : Params) (polls : List Byte) : portCount (pollActs p polls) = 2 * polls.length := by
  induction polls with
  | nil => rfl
  | cons v polls ih =>
    rw [pollActs, List.flatMap_cons, portCount_append]
    change 2 + portCount (pollActs p polls) = _
    rw [ih, List.length_cons]
    omega

theorem did_grabPolls {p : Params} (n : Nat) {s : State} (hp : s.params = p) (ha : TransfersAnswered (2 * n) s) :
    ∃ b polls t f, grabPolls n s = (.ok b, t) ∧ Did (pollActs p polls) f s t ∧ KeepsReport f ∧ Polled p n b polls := by
  induction n generalizing s with
  | zero => exact ⟨false, [], s, id, rfl, Did.refl s, keepsReport_id, ⟨Nat.le_refl 0, by simp, nofun, fun _ => ⟨rfl, rfl⟩⟩⟩
  | succ n ih =>
    subst hp
    obtain ⟨v, m, e, hd⟩ := did_readBank (bankOf s.params .ctrl) (s := s) fun i hi => ha i (by omega)
    have hrep := (marks_touch (bankOf s.params .ctrl) 2).report
    cases hv : busakActive s.params v with
    | true =>
      refine ⟨true, [v], m, _, ?_, hd, hrep, polled_single hv⟩
      simp only [grabPolls, andThen, e, hv, if_true]
      rfl
    | false =>
      obtain ⟨b, polls, t, f, e', hd', hf, hpolled⟩ := ih hd.params
        (hd.answered_of (n := 2) (q := 2 * (n + 1)) rfl ha (by omega))
      refine ⟨b, v :: polls, t, _, ?_, hd.trans hd', hrep.trans hf, hpolled.cons hv⟩
      simp only [grabPolls, andThen, e, hv, Bool.false_eq_true, if_false]
      exact e'

/-- `grab` while `Released`, granted or not within its polls (R201, R204). -/
theorem did_grabOp {p : Params} {s : State} (hp : s.params = p) (hr : s.arb = .released)
    (ha : TransfersAnswered (2 + 2 * p.grabPollLimit) s) :
    ∃ b polls t f, Polled p p.grabPollLimit b polls ∧ (∀ q, (f q).warn = q.warn) ∧
      ((b = true ∧ grabOp s = (.ok (), t) ∧ t.arb = .owned ∧ Did (assertActs p .busrq ++ pollActs p polls) f s t ∧
          KeepsReport f) ∨
        (b = false ∧ grabOp s = (.failed .busGrantTimeout, t) ∧ t.arb = .released ∧
          Did (assertActs p .busrq ++ pollActs p polls ++ releaseActs p .busrq) f s t ∧
          ∀ q, (f q).firstErr = some (q.firstErr.getD .busGrantTimeout))) := by
  subst hp
  have hassert := did_lineAssert .busrq s
  obtain ⟨b, polls, m, f, e, hd, hf, hpolled⟩ := did_grabPolls s.params.grabPollLimit (s := lineAssert .busrq s)
    hassert.params (hassert.answered_of (n := 2) rfl ha (by omega))
  have hrun := hassert.trans hd
  have hrep : KeepsReport (f ∘ Sequencer.ticks 2) := KeepsReport.trans (fun _ => ⟨rfl, rfl⟩) hf
  cases b with
  | true =>
    refine ⟨true, polls, setArb .owned m, _, hpolled, fun q => (hrep q).1, .inl ⟨rfl, ?_, rfl, ?_, hrep⟩⟩
    · simp only [grabOp, hr, e]
    · simpa using hrun.trans (Did.setArb .owned m)
  | false =>
    have hline := did_lineRelease .busrq m
    rw [hrun.params] at hline
    have hnote := Did.modifySeq (fun q => { q with firstErr := some (q.firstErr.getD .busGrantTimeout) })
      (lineRelease .busrq m)
    have hall := (hrun.trans hline).trans hnote
    rw [List.append_nil] at hall
    have hline : KeepsReport (Sequencer.ticks (releaseActs s.params .busrq).length) := fun _ => ⟨rfl, rfl⟩
    have hboth := hrep.trans hline
    refine ⟨false, polls, _, _, hpolled, ?_, .inr ⟨rfl, ?_, ?_, hall, fun q => ?_⟩⟩
    · exact fun q => (hboth q).1
    · simp only [grabOp, hr, e]
      rfl
    · have h1 := stays_grabPolls staysReleased_transferFrame s.params.grabPollLimit (lineAssert .busrq s)
        (stays_lineAssert (staysReleased_pinFrame .busrq) s hr)
      rw [e] at h1
      exact stays_lineRelease (staysReleased_pinFrame .busrq) m h1
    · exact congrArg (fun x => some (Option.getD x Err.busGrantTimeout)) (hboth q).2

theorem portTrace_pollActs (p : Params) (polls : List Byte) :
    portTrace p (pollActs p polls) = polls.flatMap (readBankTrace p (bankOf p .ctrl)) := by
  induction polls with
  | nil => rfl
  | cons v polls ih =>
    rw [pollActs, List.flatMap_cons, portTrace_append, portTrace_readBank, List.flatMap_cons]
    exact congrArg _ ih

theorem cycleTrace_pollActs (p : Params) (polls : List Byte) : cycleTrace p (pollActs p polls) = [] := by
  induction polls with
  | nil => rfl
  | cons v polls ih => rw [pollActs, List.flatMap_cons, cycleTrace_append, cycleTrace_readBank]; exact ih

theorem noPin_pollActs (p : Params) (polls : List Byte) : ∀ a ∈ pollActs p polls, a.NoPin := by
  intro a ha
  obtain ⟨v, -, ha⟩ := List.mem_flatMap.1 ha
  simp only [readBankActs, List.mem_cons, List.not_mem_nil, or_false] at ha
  rcases ha with rfl | rfl <;> trivial

/-- Settles O22: the command's body is `grab`, whose polls end with BUSAK Active or with the limit. -/
theorem grabPollsUntilBusak : Obligations.GrabPollsUntilBusak := by
  intro s hreg hc hr ha
  let s0 := setSeq (some (freshSeq .grab)) s
  obtain ⟨b, polls, m, f, hpolled, hwarn, hcase⟩ := did_grabOp (p := s.params) (s := s0) rfl hr ha
  have hexec := (exec_command (i := .grab) rfl s).trans (command_of_ok hreg)
  have hbody : commandBody .grab s0 = noData grabOp s0 := precheck_passes hc nofun
  have hframe {t : State} (he : exec .grab s = .next t) : t.params = s.params ∧ t.configured = true ∧
      t.pending = s.pending ∧ sameOtherLines .busrq s t ∧ sameButDirections s t :=
    ⟨exec_keeps keeps_params he, (exec_keeps (keeps_configured (i := .grab) nofun) he).trans hc,
      exec_keeps (keeps_pending rfl) he, fun l hl => exec_keeps (keeps_line (by simpa [mayWriteLine] using hl)) he,
      sameButDirections_of_exec he nofun rfl⟩
  have hassert : (assertActs s.params .busrq ++ pollActs s.params polls).foldl Action.lines s.lines =
      withLine s.lines .busrq (assertedPin s.params .busrq (ofLine s.lines .busrq)) := by
    rw [List.foldl_append, lines_assertActs, lines_foldl_noPin (noPin_pollActs _ _)]
  have hq : m.seq = some (f (freshSeq .grab)) := by
    rcases hcase with ⟨-, -, -, hd, -⟩ | ⟨-, -, -, hd, -⟩ <;> rw [hd.seq] <;> rfl
  have hw : warnBit m = false := by simp only [warnBit, hq, hwarn]; rfl
  rcases hcase with ⟨rfl, e, harb, hd, -⟩ | ⟨rfl, e, harb, hd, hfirst⟩
  · rw [hbody.trans (noData_of_ok e), finish, hw] at hexec
    have hperf := hd.performed ⟨[.response (okReply false 0#16 0#8)], rfl, rfl⟩ (sameWorld_respond _ m) rfl
    obtain ⟨h1, h2, h3, h4, h5⟩ := hframe hexec
    refine ⟨_, polls, hexec, hpolled.length_le, hpolled.before, h1, h2, h3, h4, h5, ?_,
      .inl ⟨hpolled.last rfl, harb, rfl, ?_, ?_⟩⟩
    · rw [hperf.busCycles, cycleTrace_append, cycleTrace_assert, List.nil_append]
      exact cycleTrace_pollActs ..
    · rw [hperf.portActions, portTrace_append, portTrace_assert]
      exact congrArg _ (portTrace_pollActs ..)
    · rw [hperf.lines]
      exact (congrArg (fun x => ofLine x .busrq) hassert).trans (ofLine_withLine_same ..)
  · have hb : commandBody .grab s0 = (.failed .busGrantTimeout, m) :=
      hbody.trans (by simp only [noData, andThen, e])
    have hrep : reportedErr .busGrantTimeout m = .busGrantTimeout := by
      simp only [reportedErr, hq, hfirst]; rfl
    rw [hb, finish, hw, hrep] at hexec
    have hperf := hd.performed ⟨[.response (errReply false .busGrantTimeout)], rfl, rfl⟩ (sameWorld_respond _ m) rfl
    obtain ⟨h1, h2, h3, h4, h5⟩ := hframe hexec
    obtain ⟨hall, hlen⟩ := hpolled.all rfl
    refine ⟨_, polls, hexec, hpolled.length_le, hpolled.before, h1, h2, h3, h4, h5, ?_,
      .inr ⟨hall, hlen, harb, rfl, ?_, ?_⟩⟩
    · rw [hperf.busCycles, cycleTrace_append, cycleTrace_append, cycleTrace_release, cycleTrace_assert, List.nil_append,
        List.append_nil]
      exact cycleTrace_pollActs ..
    · rw [hperf.portActions, portTrace_append, portTrace_append, portTrace_release, portTrace_assert]
      exact congrArg (fun x => assertTrace s.params .busrq ++ x ++ releaseTrace s.params .busrq) (portTrace_pollActs ..)
    · rw [hperf.lines, List.foldl_append]
      refine (congrArg (fun x => ofLine ((releaseActs s.params .busrq).foldl Action.lines x) .busrq) hassert).trans ?_
      rw [lines_releaseActs, ofLine_withLine_same, ofLine_withLine_same]

end Sys2Proof.Machine

/-! # `CONFIGURE` (R167) -/

namespace Sys2Proof.Machine

/-! ## Writes one after another -/

/-- One register write: chip, register and byte. -/
structure RegWrite where
  chip : ChipId
  reg : Reg
  value : Byte

/-- The write, answered. -/
def RegWrite.act (w : RegWrite) : Action := .write w.chip w.reg w.value

/-- The operation is the register write, after bookkeeping at most. -/
def RegWrite.Performs (w : RegWrite) (o : Op Unit) : Prop :=
  ∀ s, ∃ g s', Did [] g s s' ∧ o s = xferW w.chip w.reg w.value s'

theorem performs_xferW (c : ChipId) (r : Reg) (v : Byte) : RegWrite.Performs ⟨c, r, v⟩ (xferW c r v) := fun s =>
  ⟨id, s, Did.refl s, rfl⟩

theorem performs_writeBankReg (id : BankId) (reg : Bank → Reg) (v : Byte) :
    RegWrite.Performs ⟨id.chip, reg id.bank, v⟩ (writeBankReg id reg v) := fun s =>
  ⟨_, touch id s, did_touch id s, rfl⟩

theorem did_inOrder {ws : List RegWrite} {os : List (Op Unit)} (h : List.Forall₂ RegWrite.Performs ws os) {s : State}
    (ha : TransfersAnswered ws.length s) :
    ∃ t f, inOrder os s = (.ok (), t) ∧ Did (ws.map RegWrite.act) f s t := by
  induction h generalizing s with
  | nil => exact ⟨s, id, rfl, Did.refl s⟩
  | @cons w o ws os hw _ ih =>
    obtain ⟨g, s', hd0, e0⟩ := hw s
    obtain ⟨m, e1, hd1⟩ := did_xferW w.chip w.reg w.value (s := s') (hd0.answered_of (n := 0) (r := 1) rfl ha (by simp) 0 Nat.one_pos)
    have hd := hd0.trans hd1
    obtain ⟨t, f, e2, hd2⟩ := ih (hd.answered_of (n := 1) rfl ha (by simp [Nat.add_comm]))
    refine ⟨t, _, ?_, hd.trans hd2⟩
    simp only [inOrder, andThen, e0, e1, e2]

/-- The first failed write ends it. -/
theorem did_inOrder_fails {ws : List RegWrite} {os : List (Op Unit)} (h : List.Forall₂ RegWrite.Performs ws os) {s : State}
    {k : Nat} {w : RegWrite} {x : Byte} (hk : ws[k]? = some w) (ha : TransfersAnswered k s)
    (hx : (drawAt s k).xfer = .err x) :
    ∃ e t f, inOrder os s = (.failed e, t) ∧
      Did ((ws.take k).map RegWrite.act ++ [.failWrite w.chip w.reg w.value x]) f s t := by
  induction h generalizing s k with
  | nil => simp at hk
  | @cons w' o ws os hw _ ih =>
    obtain ⟨g, s', hd0, e0⟩ := hw s
    have hdraw (i : Nat) : drawAt s' i = drawAt s i := by rw [hd0.draws]; simp
    cases k with
    | zero =>
      obtain rfl : w' = w := by simpa using hk
      obtain ⟨t, e1, hd1⟩ := did_xferW_err w'.chip w'.reg w'.value (s := s') (by rw [hdraw]; exact hx)
      refine ⟨.transport w'.chip (regAddr s'.params w'.reg) (stepIndex s'), t, _, ?_, hd0.trans hd1⟩
      simp only [inOrder, andThen, e0, e1]
    | succ k =>
      obtain ⟨m, e1, hd1⟩ := did_xferW w'.chip w'.reg w'.value (s := s') (by rw [hdraw]; exact ha 0 (Nat.succ_pos k))
      have hd := hd0.trans hd1
      have hdraw' (i : Nat) : drawAt m i = drawAt s (i + 1) := by rw [hd.draws, Nat.add_comm]; rfl
      obtain ⟨e, t, f, e2, hd2⟩ := ih (s := m) (k := k) (by simpa using hk)
        (fun i hi => by rw [hdraw']; exact ha _ (Nat.succ_lt_succ hi)) (by rw [hdraw']; exact hx)
      refine ⟨e, t, _, ?_, hd.trans hd2⟩
      simp only [inOrder, andThen, e0, e1, e2]

/-- The writes of `configure` for one chip. -/
def configureChipWrites (p : Params) (c : ChipId) : List RegWrite :=
  [ ⟨c, .iocon, ioconValue⟩, ⟨c, .iodir .portA, allIn p⟩, ⟨c, .iodir .portB, allIn p⟩, ⟨c, .ipol .portA, 0x00#8⟩,
    ⟨c, .ipol .portB, 0x00#8⟩, ⟨c, .gppu .portA, 0xFF#8⟩, ⟨c, .gppu .portB, 0xFF#8⟩ ]

/-- The writes of `configure`, the broadcast first. -/
def configureWrites (p : Params) : List RegWrite :=
  ⟨.chip0, .iocon, ioconValue⟩ :: (chipsOf p.numChips).flatMap (configureChipWrites p)

theorem performs_configureTransfers (p : Params) :
    List.Forall₂ RegWrite.Performs (configureWrites p) (configureTransfers p) := by
  refine .cons (performs_xferW _ _ _) ?_
  induction chipsOf p.numChips with
  | nil => exact .nil
  | cons c cs ih =>
    have hbank (k : Bank) (reg : Bank → Reg) (v : Byte) := performs_writeBankReg ⟨c, k⟩ reg v
    exact .cons (performs_xferW _ _ _) <| .cons (hbank .portA .iodir _) <| .cons (hbank .portB .iodir _) <|
      .cons (hbank .portA .ipol _) <| .cons (hbank .portB .ipol _) <| .cons (hbank .portA .gppu _) <|
      .cons (hbank .portB .gppu _) ih

theorem length_configureWrites (p : Params) : (configureWrites p).length = 1 + 7 * (chipsOf p.numChips).length := by
  unfold configureWrites
  cases p.numChips <;> rfl

/-! ## The lines -/

/-- The actions of `configure` on the lines. -/
def configureLineActs (p : Params) (ls : List Line) : List Action :=
  ls.flatMap fun l => .pullUp l true :: releaseActs p l

theorem did_configureLines {p : Params} (ls : List Line) {s : State} (hp : s.params = p) :
    ∃ f, Did (configureLineActs p ls) f s (configureLines ls s) := by
  subst hp
  induction ls generalizing s with
  | nil => exact ⟨id, Did.refl s⟩
  | cons l ls ih =>
    have h1 := did_gpioPullUp l true s
    have h2 := did_lineRelease l (gpioPullUp l true s)
    rw [h1.params] at h2
    have h12 := h1.trans h2
    obtain ⟨f, h3⟩ := ih (s := configureLine l s)
    rw [show (configureLine l s).params = s.params from h12.params] at h3
    exact ⟨_, h12.trans h3⟩

theorem ofLine_configureLineActs {p : Params} {ls : List Line} (hnd : ls.Nodup) (x : PerLine LinePin) (l : Line) :
    ofLine ((configureLineActs p ls).foldl Action.lines x) l =
      if l ∈ ls then releasedPin p l { ofLine x l with pullUp := true } else ofLine x l := by
  induction ls generalizing x with
  | nil => rfl
  | cons l' ls ih =>
    obtain ⟨hnot, hnd⟩ := List.nodup_cons.1 hnd
    have hstep : ((Action.pullUp l' true :: releaseActs p l').foldl Action.lines x) =
        withLine x l' (releasedPin p l' { ofLine x l' with pullUp := true }) := by
      rw [List.foldl_cons, lines_releaseActs]
      cases l' <;> rfl
    rw [configureLineActs, List.flatMap_cons, List.foldl_append, hstep]
    refine (ih hnd _).trans ?_
    by_cases hl : l = l'
    · subst hl
      simp [hnot]
    · simp [hl, ofLine_withLine_of_ne x _ hl]

theorem chips_configureLineActs (p : Params) (ls : List Line) (e : Expanders) :
    (configureLineActs p ls).foldl (Action.chips p) e = e := by
  induction ls with
  | nil => rfl
  | cons l ls ih =>
    rw [configureLineActs, List.flatMap_cons, List.foldl_append, List.foldl_cons, chips_releaseActs]
    exact ih

/-! ## Traces -/

theorem map_event_configureWrites (p : Params) :
    ((configureWrites p).map RegWrite.act).map (Action.event p) =
      .xferW .chip0 (regAddr p .iocon) 0x28#8 true :: (chipsOf p.numChips).flatMap (configureChipTrace p) := by
  unfold configureWrites
  cases p.numChips <;> rfl

theorem portTrace_configureWrites (p : Params) : portTrace p ((configureWrites p).map RegWrite.act) =
    .xferW .chip0 (regAddr p .iocon) 0x28#8 true :: (chipsOf p.numChips).flatMap (configureChipTrace p) := by
  rw [portTrace, map_event_configureWrites]
  cases p.numChips <;> rfl

theorem cycleTrace_of_writes (p : Params) (ws : List RegWrite) : cycleTrace p (ws.map RegWrite.act) = [] := by
  rw [cycleTrace, List.filter_eq_nil_iff]
  intro e he
  obtain ⟨a, ha, rfl⟩ := List.mem_map.1 he
  obtain ⟨w, -, rfl⟩ := List.mem_map.1 ha
  exact Bool.false_ne_true

theorem portTrace_configureLineActs (p : Params) (ls : List Line) :
    portTrace p (configureLineActs p ls) = ls.flatMap fun l => .gpioPU (gpioPin p l) true :: releaseTrace p l := by
  induction ls with
  | nil => rfl
  | cons l ls ih =>
    rw [configureLineActs, List.flatMap_cons, portTrace_append, List.flatMap_cons]
    refine congr (congrArg _ ?_) ih
    exact (portTrace_append p [.pullUp l true] (releaseActs p l)).trans (congrArg _ (portTrace_release p l))

theorem cycleTrace_configureLineActs (p : Params) (ls : List Line) : cycleTrace p (configureLineActs p ls) = [] := by
  induction ls with
  | nil => rfl
  | cons l ls ih =>
    rw [configureLineActs, List.flatMap_cons, cycleTrace_append]
    have hline : cycleTrace p (.pullUp l true :: releaseActs p l) = [] :=
      (cycleTrace_append p [.pullUp l true] (releaseActs p l)).trans (congrArg _ (cycleTrace_release p l))
    rw [hline]
    exact ih

theorem noPin_writes (ws : List RegWrite) : ∀ a ∈ ws.map RegWrite.act, a.NoPin := by
  intro a ha
  obtain ⟨w, -, rfl⟩ := List.mem_map.1 ha
  trivial

/-! ## Registers -/

/-- The broadcast reaches every chip that does not decode its address. -/
theorem decoding_broadcast (p : Params) (e : Expanders) : Decoding p (writeReg p e .chip0 .iocon ioconValue) := by
  intro c hc
  rw [chipRegs_writeReg]
  split
  · simp [writeChip, ioconValue, decodesAddress]
  · rename_i h
    by_contra hd
    exact h (by simp [answers, hc, hd])

theorem proper_configureChipWrites {p : Params} {c : ChipId} (hc : chipPresent p.numChips c = true) :
    ∀ a ∈ (configureChipWrites p c).map RegWrite.act, a.Proper p := by
  intro a ha
  simp only [configureChipWrites, List.map_cons, List.map_nil, List.mem_cons, List.not_mem_nil, or_false] at ha
  rcases ha with rfl | rfl | rfl | rfl | rfl | rfl | rfl
  · exact ⟨hc, fun _ => by simp [ioconValue, decodesAddress]⟩
  all_goals exact ⟨hc, nofun⟩

theorem configureWrites_acts (p : Params) : (configureWrites p).map RegWrite.act =
    .write .chip0 .iocon ioconValue :: (chipsOf p.numChips).flatMap fun c => (configureChipWrites p c).map RegWrite.act := by
  rw [configureWrites, List.map_cons, List.map_flatMap]
  rfl

/-- A bank's registers at rest, with its latches as they were (R49, R167). -/
def atRestRegs (p : Params) (x : BankRegs) : BankRegs := { x with iodir := allIn p, ipol := 0x00#8, gppu := 0xFF#8 }

theorem bankAfter_configureChipWrites (p : Params) (c : ChipId) (id : BankId) (x : BankRegs) :
    bankAfter id ((configureChipWrites p c).map RegWrite.act) x = if id.chip = c then atRestRegs p x else x := by
  obtain ⟨c', k⟩ := id
  by_cases hc : c' = c
  · subst hc
    cases k <;> simp [bankAfter, configureChipWrites, RegWrite.act, Action.onBank, writeBankRegs, atRestRegs]
  · simp [bankAfter, configureChipWrites, RegWrite.act, Action.onBank, hc]

theorem bankAfter_configureChips (p : Params) (cs : List ChipId) (id : BankId) (x : BankRegs) :
    bankAfter id (cs.flatMap fun c => (configureChipWrites p c).map RegWrite.act) x =
      if id.chip ∈ cs then atRestRegs p x else x := by
  induction cs generalizing x with
  | nil => rfl
  | cons c cs ih =>
    rw [List.flatMap_cons, bankAfter_append, bankAfter_configureChipWrites, ih]
    by_cases h1 : id.chip = c <;> by_cases h2 : id.chip ∈ cs <;> simp [h1, h2, atRestRegs]

section
variable (p : Params) (e : Expanders)

theorem proper_configureChips : ∀ a ∈ (chipsOf p.numChips).flatMap fun c => (configureChipWrites p c).map RegWrite.act,
    a.Proper p := by
  intro a ha
  obtain ⟨c, hc, ha⟩ := List.mem_flatMap.1 ha
  exact proper_configureChipWrites (mem_chipsOf.1 hc) a ha

/-- From any state the writes of `configure` leave the banks present at rest. -/
theorem bankRegs_configureWrites (id : BankId) :
    bankRegs (((configureWrites p).map RegWrite.act).foldl (Action.chips p) e) id =
      if id ∈ banksOf p.numChips then atRestRegs p (bankRegs e id) else bankRegs e id := by
  have hdec : Decoding p (Action.chips p e (.write .chip0 .iocon ioconValue)) := decoding_broadcast p e
  rw [configureWrites_acts, List.foldl_cons, bankRegs_foldl hdec (proper_configureChips p), bankAfter_configureChips]
  have hbroadcast : bankRegs (Action.chips p e (.write .chip0 .iocon ioconValue)) id = bankRegs e id := by
    rw [Action.chips, bankRegs_writeReg]
    split <;> rfl
  rw [hbroadcast]
  simp only [mem_chipsOf, mem_banksOf]

/-- A chip's configuration register, once some action has written `v` to it and none writes anything else there. -/
theorem iocon_foldl {acts : List Action} (c : ChipId) {v : Byte}
    (ha : ∀ a ∈ acts, ∀ c' r w, a = .write c' r w → r = .iocon → w = v) (hf : ∀ a ∈ acts, ∀ c' r w x, a ≠ .failWrite c' r w x)
    (h : (chipRegs e c).iocon = v) : (chipRegs (acts.foldl (Action.chips p) e) c).iocon = v := by
  induction acts generalizing e with
  | nil => exact h
  | cons a acts ih =>
    refine ih _ (fun b hb => ha b (List.mem_cons_of_mem _ hb)) (fun b hb => hf b (List.mem_cons_of_mem _ hb)) ?_
    cases a with
    | write c' r w =>
      rw [Action.chips, chipRegs_writeReg]
      split
      · cases r with
        | iocon => exact ha _ (List.mem_cons_self ..) c' .iocon w rfl rfl
        | iodir k | ipol k | gppu k | olat k => exact (withPort_iocon ..).trans h
      · exact h
    | failWrite c' r w x => exact absurd rfl (hf _ (List.mem_cons_self ..) c' r w x)
    | _ => exact h

theorem iocon_configureWrites {c : ChipId} (hc : chipPresent p.numChips c = true) :
    (chipRegs (((configureWrites p).map RegWrite.act).foldl (Action.chips p) e) c).iocon = 0x28#8 := by
  have hmem : Action.write c .iocon ioconValue ∈ (configureWrites p).map RegWrite.act := by
    rw [configureWrites_acts]
    exact List.mem_cons_of_mem _ (List.mem_flatMap.2 ⟨c, mem_chipsOf.2 hc, List.mem_cons_self ..⟩)
  have hvalue : ∀ a ∈ (configureWrites p).map RegWrite.act, ∀ c' r w, a = .write c' r w → r = .iocon → w = 0x28#8 := by
    rw [configureWrites_acts]
    intro a ha c' r w hw hr
    subst hw hr
    rcases List.mem_cons.1 ha with ha | ha
    · cases ha; rfl
    · obtain ⟨d, -, ha⟩ := List.mem_flatMap.1 ha
      simp [configureChipWrites, RegWrite.act] at ha
      exact ha.2
  have hfail : ∀ a ∈ (configureWrites p).map RegWrite.act, ∀ c' r w x, a ≠ .failWrite c' r w x := by
    intro a ha c' r w x
    obtain ⟨w', -, rfl⟩ := List.mem_map.1 ha
    nofun
  obtain ⟨as, bs, heq⟩ := List.append_of_mem hmem
  rw [heq] at hvalue hfail ⊢
  rw [List.foldl_append, List.foldl_cons]
  refine iocon_foldl p _ c (fun a ha => hvalue a (by simp [ha])) (fun a ha => hfail a (by simp [ha])) ?_
  rw [Action.chips, chipRegs_writeReg]
  simp [answers, hc, writeChip, ioconValue]

theorem chipRegs_configureWrites_absent {c : ChipId} (hc : chipPresent p.numChips c = false) (ws : List RegWrite) :
    chipRegs ((ws.map RegWrite.act).foldl (Action.chips p) e) c = chipRegs e c := by
  induction ws generalizing e with
  | nil => rfl
  | cons w ws ih =>
    refine (ih _).trans ?_
    rw [RegWrite.act, Action.chips, chipRegs_writeReg]
    simp [answers, hc]

end

/-! ## The command -/

theorem did_configureOp {p : Params} {s : State} (hp : s.params = p)
    (ha : TransfersAnswered (1 + 7 * (chipsOf p.numChips).length) s) :
    ∃ t f, configureOp s = (.ok (), t) ∧ t.configured = true ∧
      Did ((configureWrites p).map RegWrite.act ++ configureLineActs p allLines) f s t := by
  subst hp
  have h0 := (Did.setConfigured false s).trans (Did.setArb .released _)
  obtain ⟨m, f, e, h1⟩ := did_inOrder (performs_configureTransfers s.params)
    (s := setArb .released (setConfigured false s)) (by rwa [length_configureWrites])
  have h01 := h0.trans h1
  obtain ⟨g, h2⟩ := did_configureLines allLines (p := s.params) (s := m) h01.params
  refine ⟨_, _, ?_, ?_, by simpa using (h01.trans h2).trans (Did.setConfigured true _)⟩
  · simp only [configureOp, andThen, e]
    rfl
  · rfl

/-- Settles O19: the writes and pin actions of `configure`, and the registers and pins they leave. -/
theorem configureResult : Obligations.ConfigureResult := by
  intro s hreg ha
  let s0 := setSeq (some (freshSeq .configure)) s
  obtain ⟨m, f, e, hconf, hd⟩ := did_configureOp (p := s.params) (s := s0) rfl ha
  have hexec := (exec_command (i := .configure) rfl s).trans (command_of_ok hreg)
  have hreports := reports_noData reports_configureOp s0
  have hb : commandBody .configure s0 = (.ok (0#16, 0#8), m) := noData_of_ok e
  rw [show noData configureOp s0 = _ from hb] at hreports
  have hnext := (exec_command (i := .configure) rfl s).symm.trans hexec
  have harb := configureOp_arb s0
  rw [e] at harb
  rcases command_reports hb hreports nofun hnext with ⟨_, heq, hresp, -⟩ | ⟨_, _, heq, -⟩
  · cases heq
    rw [hb] at hexec hresp
    change exec .configure s = .next (respond (okReply (warnBit m) 0#16 0#8) m) at hexec
    have hperf := hd.performed ⟨[_], rfl, rfl⟩ (sameWorld_respond (okReply (warnBit m) 0#16 0#8) m) rfl
    have hchips := hperf.chips
    rw [List.foldl_append, chips_configureLineActs] at hchips
    refine ⟨_, hexec, hresp, ?_, ?_, hconf, harb, exec_keeps (keeps_pending rfl) hexec, exec_keeps keeps_params hexec,
      fun l => ?_, fun c hc => ?_, fun id hid => ?_, fun h2 => ?_⟩
    · refine hperf.portActions.trans ?_
      rw [portTrace_append]
      exact congrArg₂ _ (portTrace_configureWrites _) (portTrace_configureLineActs _ _)
    · refine hperf.busCycles.trans ?_
      rw [cycleTrace_append]
      exact congrArg₂ _ (cycleTrace_of_writes _ _) (cycleTrace_configureLineActs _ _)
    · have hnd : allLines.Nodup := by decide
      have hmem : l ∈ allLines := by cases l <;> decide
      rw [hperf.lines, List.foldl_append, ofLine_configureLineActs hnd, if_pos hmem, lines_foldl_noPin (noPin_writes _)]
    · rw [hchips]
      exact iocon_configureWrites s.params s.chips (mem_chipsOf.1 hc)
    · rw [hchips]
      exact (bankRegs_configureWrites s.params s.chips id).trans (if_pos hid)
    · rw [hchips]
      exact chipRegs_configureWrites_absent s.params s.chips (c := .chip2) (by rw [h2]; rfl) _
  · cases heq

theorem configured_configureTransfers (p : Params) :
    Stays (fun s t => t.configured = s.configured) (inOrder (configureTransfers p)) :=
  law_configureTransfers (P := fun _ o => Stays (fun s t => t.configured = s.configured) o)
    { stays_opLaw (R := fun s t => t.configured = s.configured) ⟨fun _ => rfl, fun h k => k.trans h⟩ with
      touch := fun _ _ => rfl
      freshTransaction := fun _ => rfl
      writeAllIn := fun _ s => (sameOwnFields_xferW _ _ _ s).configured
      read := fun id s => (sameOwnFields_xferR id s).configured }
    (fun _ _ _ _ s => (sameOwnFields_xferW _ _ _ s).configured) p

/-- `configure` whose transfer `k` is the first to fail. -/
theorem did_configureOp_fails {p : Params} {s : State} {k : Nat} {w : RegWrite} {x : Byte} (hp : s.params = p)
    (hw : (configureWrites p)[k]? = some w) (ha : TransfersAnswered k s) (hx : (drawAt s k).xfer = .err x) :
    ∃ e t f, configureOp s = (.failed e, t) ∧ t.configured = false ∧
      Did (((configureWrites p).take k).map RegWrite.act ++ [.failWrite w.chip w.reg w.value x]) f s t := by
  subst hp
  have h0 := (Did.setConfigured false s).trans (Did.setArb .released _)
  obtain ⟨e, m, f, he, h1⟩ := did_inOrder_fails (performs_configureTransfers s.params)
    (s := setArb .released (setConfigured false s)) hw ha hx
  have hconf := configured_configureTransfers s.params (setArb .released (setConfigured false s))
  rw [he] at hconf
  refine ⟨e, m, _, ?_, hconf, h0.trans h1⟩
  simp only [configureOp, andThen, he]

theorem firstFailure_completed {k : Nat} {evs : List Event} (h : ∀ e ∈ evs, failedTransfer e = none) :
    firstFailure k evs = none := by
  induction evs generalizing k with
  | nil => rfl
  | cons e evs ih =>
    rw [firstFailure, h e (List.mem_cons_self ..)]
    exact ih fun e' h' => h e' (List.mem_cons_of_mem _ h')

/-- The event of a write of `configure`, among the port actions of its rule. -/
theorem configureTrace_getElem? {p : Params} {k : Nat} (hk : k < 1 + 7 * (chipsOf p.numChips).length) :
    ∃ w, (configureWrites p)[k]? = some w ∧ (configureTrace p)[k]? = some (w.act.event p) ∧
      (configureTrace p).take k = ((configureWrites p).take k).map fun w => w.act.event p := by
  have hlen : k < (configureWrites p).length := by rwa [length_configureWrites]
  have htrace : configureTrace p = ((configureWrites p).map fun w => w.act.event p) ++
      allLines.flatMap fun l => .gpioPU (gpioPin p l) true :: releaseTrace p l := by
    rw [configureTrace, ← map_event_configureWrites, List.map_map]
    rfl
  refine ⟨(configureWrites p)[k], List.getElem?_eq_getElem hlen, ?_, ?_⟩
  · rw [htrace, List.getElem?_append_left (by simpa using hlen), List.getElem?_map, List.getElem?_eq_getElem hlen]
    rfl
  · rw [htrace, List.take_append_of_le_length (by simpa using hlen.le), List.map_take]

/-- Settles O20: `configure` ends at the first write that fails. -/
theorem configureStopsAtFirstFailure : Obligations.ConfigureStopsAtFirstFailure := by
  intro s k x ev hreg hk ha hx hev
  obtain ⟨w, hw, hev', htake⟩ := configureTrace_getElem? hk
  obtain rfl : w.act.event s.params = ev := by rw [hev'] at hev; exact Option.some.inj hev
  let s0 := setSeq (some (freshSeq .configure)) s
  obtain ⟨e, m, f, he, hconf, hd⟩ := did_configureOp_fails (s := s0) rfl hw ha hx
  have hexec := (exec_command (i := .configure) rfl s).trans (command_of_ok hreg)
  have hreports := reports_noData reports_configureOp s0
  have hb : commandBody .configure s0 = (.failed e, m) := by
    change noData configureOp s0 = _
    simp only [noData, andThen, he]
  rw [show noData configureOp s0 = _ from hb] at hreports
  have hnext := (exec_command (i := .configure) rfl s).symm.trans hexec
  have harb := configureOp_arb s0
  rw [he] at harb
  rcases command_reports hb hreports nofun hnext with ⟨_, heq, -⟩ | ⟨_, y, heq, hresp, hfirst⟩
  · cases heq
  · cases heq
    rw [hb] at hexec hresp hfirst
    change exec .configure s = .next (respond (errReply (warnBit m) (reportedErr e m)) m) at hexec
    have hperf := hd.performed ⟨[_], rfl, rfl⟩ (sameWorld_respond (errReply (warnBit m) (reportedErr e m)) m) rfl
    have hports : portActions s (respond (errReply (warnBit m) (reportedErr e m)) m) =
        (configureTrace s.params).take k ++ [asFailed (w.act.event s.params)] := by
      rw [hperf.portActions, portTrace_append, htake]
      refine congrArg₂ _ ?_ rfl
      rw [portTrace, List.map_map, List.filter_eq_self.2]
      · rfl
      · intro e he
        obtain ⟨w, -, rfl⟩ := List.mem_map.1 he
        rfl
    have hlen : ((configureTrace s.params).take k).length = k := by
      rw [List.length_take, Nat.min_eq_left]
      exact (List.getElem?_eq_some_iff.1 hev').1.le
    have hwhich : firstFailure 0 ((configureTrace s.params).take k ++ [asFailed (w.act.event s.params)]) =
        failureAt k (w.act.event s.params) := by
      rw [firstFailure_append, firstFailure_completed, hlen]
      · simp [firstFailure, failedTransfer, asFailed, failureAt, RegWrite.act, Action.event]
      · rw [htake]
        intro e he
        obtain ⟨w, -, rfl⟩ := List.mem_map.1 he
        rfl
    change firstFailure 0 (portActions s (respond (errReply (warnBit m) (reportedErr e m)) m)) = some y at hfirst
    rw [hports, hwhich] at hfirst
    refine ⟨_, y, hexec, hfirst, hresp, hports, hconf, harb, ?_, exec_keeps (keeps_pending rfl) hexec⟩
    rw [hperf.lines, List.foldl_append, lines_foldl_noPin (noPin_writes _)]
    rfl

end Sys2Proof.Machine

/-! # A `GRAB` that ends in a transport error (R205) -/

namespace Sys2Proof.Machine

/-- A command that is not held by a transfer has answered, with the result or the error of its body. -/
theorem command_answered {i : Instr} {s t : State} (hi : isCommand i = true) (h : exec i s = .next t)
    (ht : t.hung = false) : ∃ m, (∃ a, commandBody i (setSeq (some (freshSeq i)) s) = (.ok a, m) ∧
        t = respond (okReply (warnBit m) a.1 a.2) m) ∨
      (∃ e, commandBody i (setSeq (some (freshSeq i)) s) = (.failed e, m) ∧
        t = respond (errReply (warnBit m) (reportedErr e m)) m) := by
  rw [exec_command hi] at h
  have hfin := (command_next h).2
  have hends := law_commandBody hi (ends_instrLaw i).commandLaw (setSeq (some (freshSeq i)) s)
  generalize commandBody i (setSeq (some (freshSeq i)) s) = out at hfin hends
  obtain ⟨a | e | -, m⟩ := out
  · exact ⟨m, .inl ⟨a, rfl, hfin⟩⟩
  · exact ⟨m, .inr ⟨e, rfl, hfin⟩⟩
  · rw [hfin] at ht
    exact absurd (hends.hung.1.symm.trans ht) (by decide)

theorem exists_of_hung {α : Type} {x : Res α × State} (h : x.1 = .hung) : ∃ m, x = (.hung, m) := ⟨x.2, Prod.ext h rfl⟩

/-! ## Reads and polls that may fail -/

/-- The actions of a `readBank` of which one transfer failed. -/
def FailedRead (p : Params) (id : BankId) (acts : List Action) : Prop :=
  (∃ x, acts = [.failWrite id.chip (.iodir id.bank) (allIn p) x]) ∨
    acts = [.write id.chip (.iodir id.bank) (allIn p), .failRead id]

theorem readBank_cases (id : BankId) (s : State) : (readBank id s).1 = .hung ∨
    (∃ v t f, readBank id s = (.ok v, t) ∧ Did (readBankActs s.params id v) f s t) ∨
    ∃ e t f acts, readBank id s = (.failed e, t) ∧ Did acts f s t ∧ FailedRead s.params id acts := by
  have h0 := did_touch id s
  cases hx : (drawAt (touch id s) 0).xfer with
  | hang =>
    refine .inl ?_
    simp only [readBank, andThen, xferW, hx]
  | err x =>
    obtain ⟨t, e1, h1⟩ := did_xferW_err id.chip (.iodir id.bank) (allIn s.params) hx
    exact .inr (.inr ⟨_, t, _, _, by simp only [readBank, andThen, e1]; rfl, h0.trans h1, .inl ⟨x, rfl⟩⟩)
  | ok =>
    obtain ⟨m, e1, h1⟩ := did_xferW id.chip (.iodir id.bank) (allIn s.params) hx
    have h01 := h0.trans h1
    cases hy : (drawAt m 0).xfer with
    | hang =>
      refine .inl ?_
      simp only [readBank, andThen, e1, xferR, hy]
    | err y =>
      obtain ⟨t, e2, h2⟩ := did_xferR_err id hy
      exact .inr (.inr ⟨_, t, _, _, by simp only [readBank, andThen, e1, e2]; rfl, h01.trans h2, .inr rfl⟩)
    | ok =>
      obtain ⟨v, t, e2, h2⟩ := did_xferR id hy
      exact .inr (.inl ⟨v, t, _, by simp only [readBank, andThen, e1, e2], h01.trans h2⟩)

theorem grabPolls_cases {p : Params} (n : Nat) {s : State} (hp : s.params = p) : (grabPolls n s).1 = .hung ∨
    (∃ b polls t f, grabPolls n s = (.ok b, t) ∧ Did (pollActs p polls) f s t) ∨
    ∃ e polls acts t f, grabPolls n s = (.failed e, t) ∧ Did (pollActs p polls ++ acts) f s t ∧
      (∀ v ∈ polls, busakActive p v = false) ∧ FailedRead p (bankOf p .ctrl) acts := by
  subst hp
  induction n generalizing s with
  | zero => exact .inr (.inl ⟨false, [], s, id, rfl, Did.refl s⟩)
  | succ n ih =>
    rcases readBank_cases (bankOf s.params .ctrl) s with h | ⟨v, m, f, e, hd⟩ | ⟨x, t, f, acts, e, hd, hacts⟩
    · refine .inl ?_
      obtain ⟨m, hm⟩ := exists_of_hung h
      simp only [grabPolls, andThen, hm]
    · cases hv : busakActive s.params v with
      | true =>
        refine .inr (.inl ⟨true, [v], m, _, ?_, hd⟩)
        simp only [grabPolls, andThen, e, hv, if_true]
        rfl
      | false =>
        have hstep : grabPolls (n + 1) s = grabPolls n m := by
          simp only [grabPolls, andThen, e, hv, Bool.false_eq_true, if_false]
        rw [hstep]
        have hrest := ih (s := m)
        rw [hd.params] at hrest
        rcases hrest with h | ⟨b, polls, t, g, e', hd'⟩ | ⟨x, polls, acts, t, g, e', hd', hpolls, hacts⟩
        · exact .inl h
        · exact .inr (.inl ⟨b, v :: polls, t, _, e', hd.trans hd'⟩)
        · refine .inr (.inr ⟨x, v :: polls, acts, t, _, e', by simpa [pollActs] using hd.trans hd', ?_, hacts⟩)
          intro w hw
          rcases List.mem_cons.1 hw with rfl | hw
          · exact hv
          · exact hpolls w hw
    · refine .inr (.inr ⟨x, [], acts, t, f, ?_, hd, nofun, hacts⟩)
      simp only [grabPolls, andThen, e]

/-! ## `grab` -/

/-- How `grab` ends, while `Released`, when no transfer holds it: with every transfer completed, or with a failed poll, an
attempt to restore the control bank, and BUSRQ released. -/
inductive GrabEnd (p : Params) (s : State) : Res Unit → State → Prop
  | completed {r : Res Unit} {t : State} {polls : List Byte} {as : List Action} {f : Sequencer → Sequencer}
      (hr : r ≠ .hung) (hd : Did (assertActs p .busrq ++ pollActs p polls ++ as) f s t)
      (has : as = [] ∨ as = releaseActs p .busrq) : GrabEnd p s r t
  | failed {e : Err} {t : State} {polls : List Byte} {as : List Action} {x : XferDraw} {f : Sequencer → Sequencer}
      (hpolls : ∀ v ∈ polls, busakActive p v = false) (has : FailedRead p (bankOf p .ctrl) as) (harb : t.arb = .released)
      (hd : Did (assertActs p .busrq ++ pollActs p polls ++ as ++ tryActs p (bankOf p .ctrl) x ++ releaseActs p .busrq)
        f s t) : GrabEnd p s (.failed e) t

theorem restoreBank_cases (id : BankId) (s : State) : (restoreBank id s).1 = .hung ∨
    ∃ r x t f, restoreBank id s = (r, t) ∧ r ≠ .hung ∧ Did (tryActs s.params id x) f s t := by
  cases hx : (drawAt s 0).xfer with
  | hang =>
    refine .inl ?_
    have hx' : (drawAt (touch id s) 0).xfer = .hang := hx
    simp only [restoreBank, writeBankReg, xferW, hx']
  | _ =>
    obtain ⟨r, t, f, e, hr, hd⟩ := did_tryRestore id (s := s) (by rw [hx]; nofun)
    exact .inr ⟨r, _, t, f, e, hr, hd⟩

theorem grabOp_cases {p : Params} {s : State} (hp : s.params = p) (hr : s.arb = .released) :
    (grabOp s).1 = .hung ∨ GrabEnd p s (grabOp s).1 (grabOp s).2 := by
  subst hp
  have hassert := did_lineAssert .busrq s
  have hreleased (n : Nat) : (grabPolls n (lineAssert .busrq s)).2.arb = .released :=
    stays_grabPolls staysReleased_transferFrame n _ (stays_lineAssert (staysReleased_pinFrame .busrq) s hr)
  rcases grabPolls_cases s.params.grabPollLimit (s := lineAssert .busrq s) hassert.params with
    h | ⟨b, polls, m, f, e, hd⟩ | ⟨x, polls, as, m, f, e, hd, hpolls, has⟩
  · refine .inl ?_
    obtain ⟨m, hm⟩ := exists_of_hung h
    simp only [grabOp, hr, hm]
  · refine .inr ?_
    have hrun := hassert.trans hd
    cases b with
    | true =>
      have hg : grabOp s = (.ok (), setArb .owned m) := by simp only [grabOp, hr, e]
      rw [hg]
      exact .completed nofun (as := []) (by simpa using hrun.trans (Did.setArb .owned m)) (.inl rfl)
    | false =>
      have hg : grabOp s = raise .busGrantTimeout (lineRelease .busrq m) := by simp only [grabOp, hr, e]
      rw [hg]
      have hline := did_lineRelease .busrq m
      rw [hrun.params] at hline
      have hall := (hrun.trans hline).trans
        (Did.modifySeq (fun q => { q with firstErr := some (q.firstErr.getD .busGrantTimeout) }) _)
      rw [List.append_nil] at hall
      exact .completed nofun hall (.inr rfl)
  · have hrun := hassert.trans hd
    have hm : m.params = s.params := hrun.params
    rcases restoreBank_cases (bankOf m.params .ctrl) m with h | ⟨r, y, n, g, e', hne, hd'⟩
    · refine .inl ?_
      obtain ⟨n, hn⟩ := exists_of_hung h
      simp only [grabOp, hr, e, hn]
    · refine .inr ?_
      have hg : grabOp s = (.failed x, lineRelease .busrq n) := by simp only [grabOp, hr, e, e']
      rw [hg]
      have hall := hrun.trans hd'
      have hline := did_lineRelease .busrq n
      rw [hall.params] at hline
      rw [hm] at hall
      refine .failed hpolls has ?_ (x := y) (by simpa [List.append_assoc] using hall.trans hline)
      have hm' := hreleased s.params.grabPollLimit
      rw [e] at hm'
      have hn := stays_restoreBank staysReleased_transferFrame (bankOf m.params .ctrl) m hm'
      rw [e'] at hn
      exact stays_lineRelease (staysReleased_pinFrame .busrq) n hn

/-! ## The command -/

/-- The action is no failed transfer. -/
def Action.Completed : Action → Prop
  | .failWrite _ _ _ _ => False
  | .failRead _ => False
  | .cycle e => failedTransfer e = none
  | _ => True

theorem failedTransfer_completed {p : Params} {a : Action} (h : a.Completed) : failedTransfer (a.event p) = none := by
  cases a
  case failWrite | failRead => exact h.elim
  case cycle => exact h
  all_goals rfl

theorem firstFailure_portTrace {p : Params} {acts : List Action} (h : ∀ a ∈ acts, a.Completed) (k : Nat) :
    firstFailure k (portTrace p acts) = none :=
  firstFailure_completed fun e he => by
    obtain ⟨a, ha, rfl⟩ := List.mem_map.1 (List.mem_filter.1 he).1
    exact failedTransfer_completed (h a ha)

theorem completed_append {as bs : List Action} (ha : ∀ a ∈ as, a.Completed) (hb : ∀ a ∈ bs, a.Completed) :
    ∀ a ∈ as ++ bs, a.Completed := fun a h => (List.mem_append.1 h).elim (ha a) (hb a)

theorem completed_assertActs (p : Params) (l : Line) : ∀ a ∈ assertActs p l, a.Completed := by
  intro a ha
  simp only [assertActs, List.mem_cons, List.not_mem_nil, or_false] at ha
  rcases ha with rfl | rfl <;> trivial

theorem completed_releaseActs (p : Params) (l : Line) : ∀ a ∈ releaseActs p l, a.Completed := by
  intro a ha
  unfold releaseActs at ha
  split at ha <;> simp only [List.mem_cons, List.not_mem_nil, or_false] at ha
  · rcases ha with rfl | rfl <;> trivial
  · rw [ha]; trivial

theorem completed_readBankActs (p : Params) (id : BankId) (v : Byte) : ∀ a ∈ readBankActs p id v, a.Completed := by
  intro a ha
  simp only [readBankActs, List.mem_cons, List.not_mem_nil, or_false] at ha
  rcases ha with rfl | rfl <;> trivial

theorem completed_pollActs (p : Params) (polls : List Byte) : ∀ a ∈ pollActs p polls, a.Completed := by
  intro a ha
  obtain ⟨v, -, ha⟩ := List.mem_flatMap.1 ha
  exact completed_readBankActs p _ v a ha

theorem replyStatus_transport (w : Bool) (c : ChipId) (r : Byte) (k : Nat) :
    replyStatus (errReply w (.transport c r k)) = 0x04#8 := by
  rw [errReply, replyStatus_replyWord]
  rfl

theorem lineReleased_of_releasedPin {t : State} {p : Params} {l : Line} {x : LinePin} (hp : t.params = p)
    (h : ofLine t.lines l = releasedPin p l x) : lineReleased t l = true := by
  subst hp
  unfold lineReleased
  rw [h]
  unfold releasedPin
  split <;> simp_all

/-- A failed read among the port actions: the index and the transfer that failed. -/
theorem failedRead_trace {p : Params} {id : BankId} {as : List Action} (h : FailedRead p id as) :
    ∃ n e, (readBankTrace p id 0x00#8)[n]? = some e ∧
      portTrace p as = (readBankTrace p id 0x00#8).take n ++ [asFailed e] ∧
      ∃ c r, ∀ k, failureAt k e = some (.transport c r k) := by
  rcases h with ⟨x, rfl⟩ | rfl
  · exact ⟨0, _, rfl, rfl, _, _, fun _ => rfl⟩
  · exact ⟨1, _, rfl, rfl, _, _, fun _ => rfl⟩

theorem portTrace_tryActs (p : Params) (id : BankId) (x : XferDraw) :
    ∃ ok, portTrace p (tryActs p id x) = [.xferW id.chip (regAddr p (.iodir id.bank)) (allIn p) ok] := by
  cases x <;> exact ⟨_, rfl⟩

theorem failedTransfer_asFailed {e : Event} {k : Nat} {c : ChipId} {r : Byte}
    (h : failureAt k e = some (.transport c r k)) : failedTransfer (asFailed e) = some (c, r) := by
  cases e <;> simp_all [failureAt, failedTransfer, asFailed]

/-- A `GRAB` that reports a failed transfer ended with a failed poll. -/
theorem grab_failed {s t : State} {c : ChipId} {r : Byte} {k : Nat} {w : Bool} (hc : s.configured = true)
    (hr : s.arb = .released) (hs : s.hung = false) (h : exec .grab s = .next t) (ht : t.hung = false)
    (hresp : t.response = some (errReply w (.transport c r k))) :
    ∃ polls as x, (∀ v ∈ polls, busakActive s.params v = false) ∧ FailedRead s.params (bankOf s.params .ctrl) as ∧
      t.arb = .released ∧ Performed (assertActs s.params .busrq ++ pollActs s.params polls ++ as ++
        tryActs s.params (bankOf s.params .ctrl) x ++ releaseActs s.params .busrq) s t := by
  let s0 := setSeq (some (freshSeq .grab)) s
  have hbody : commandBody .grab s0 = noData grabOp s0 := precheck_passes hc nofun
  have hgrab := grabOp_cases (p := s.params) (s := s0) rfl hr
  obtain ⟨m, ⟨a, hb, rfl⟩ | ⟨e, hb, rfl⟩⟩ := command_answered rfl h ht
  · have hstatus := replyStatus_okReply_ne (warnBit m) a.1 a.2
    rw [Option.some.inj hresp, replyStatus_transport] at hstatus
    exact absurd rfl hstatus
  · have he : grabOp s0 = (.failed e, m) := by
      rw [hbody, noData, andThen] at hb
      rcases hg : grabOp s0 with ⟨_ | _ | _, n⟩ <;> rw [hg] at hb <;> cases hb
      rfl
    rw [he] at hgrab
    rcases hgrab with hh | hend
    · cases hh
    · cases hend with
      | @completed _ _ polls as f _ hd has =>
        have hperf := hd.performed ⟨[_], rfl, rfl⟩ (sameWorld_respond (errReply (warnBit m) (reportedErr e m)) m) rfl
        have hcompleted : ∀ a ∈ as, a.Completed := by
          rcases has with rfl | rfl
          · exact nofun
          · exact completed_releaseActs _ _
        have hnone : firstFailure 0 (portActions s (respond (errReply (warnBit m) (reportedErr e m)) m)) = none := by
          rw [hperf.portActions]
          exact firstFailure_portTrace
            (completed_append (completed_append (completed_assertActs _ _) (completed_pollActs _ _)) hcompleted) 0
        exact absurd (replyStatus_transport w c r k) ((firstFailureIsReported .grab s _ rfl hs h ht).2 hnone _ hresp)
      | @failed _ _ polls as x f hpolls has harb hd =>
        exact ⟨polls, as, x, hpolls, has, harb,
          hd.performed ⟨[_], rfl, rfl⟩ (sameWorld_respond (errReply (warnBit m) (reportedErr e m)) m) rfl⟩

theorem noPin_failedRead {p : Params} {id : BankId} {as : List Action} (h : FailedRead p id as) : ∀ a ∈ as, a.NoPin := by
  rcases h with ⟨x, rfl⟩ | rfl <;> intro a ha <;> simp only [List.mem_cons, List.not_mem_nil, or_false] at ha
  · rw [ha]; trivial
  · rcases ha with rfl | rfl <;> trivial

theorem noPin_tryActs (p : Params) (id : BankId) (x : XferDraw) : ∀ a ∈ tryActs p id x, a.NoPin := by
  intro a ha
  cases x <;> rw [List.mem_singleton.1 ha] <;> trivial

/-- Settles O24: a failed poll is followed by one restore and the release of BUSRQ, and its transfer is the one reported. -/
theorem failedGrabLetsGo : Obligations.FailedGrabLetsGo := by
  intro s t c r k w hc hr hs h ht hresp
  obtain ⟨polls, as, x, hpolls, has, harb, hperf⟩ := grab_failed hc hr hs h ht hresp
  obtain ⟨n, e, hn, htrace, c', r', herr⟩ := failedRead_trace has
  obtain ⟨ok, hok⟩ := portTrace_tryActs s.params (bankOf s.params .ctrl) x
  set before := assertTrace s.params .busrq ++ polls.flatMap (readBankTrace s.params (bankOf s.params .ctrl)) ++
    (readBankTrace s.params (bankOf s.params .ctrl) 0x00#8).take n with hbefore
  have hports : portActions s t = before ++ asFailed e ::
      .xferW (bankOf s.params .ctrl).chip (regAddr s.params (.iodir (bankOf s.params .ctrl).bank)) (allIn s.params) ok ::
        releaseTrace s.params .busrq := by
    rw [hperf.portActions]
    simp only [portTrace_append, portTrace_assert, portTrace_pollActs, portTrace_release, htrace, hok]
    simp [hbefore]
  have hcompleted : ∀ e' ∈ before, failedTransfer e' = none := by
    have hassert : assertTrace s.params .busrq = portTrace s.params (assertActs s.params .busrq) := rfl
    intro e' he'
    rcases List.mem_append.1 he' with he' | he'
    · rw [hassert, ← portTrace_pollActs, ← portTrace_append] at he'
      obtain ⟨a, ha, rfl⟩ := List.mem_map.1 (List.mem_filter.1 he').1
      exact failedTransfer_completed (completed_append (completed_assertActs _ _) (completed_pollActs _ _) a ha)
    · have he' := List.mem_of_mem_take he'
      simp only [readBankTrace, List.mem_cons, List.not_mem_nil, or_false] at he'
      rcases he' with rfl | rfl <;> rfl
  have hfirst : firstFailure 0 (portActions s t) = some (.transport c' r' before.length) := by
    rw [hports, firstFailure_append, firstFailure_completed hcompleted]
    simp [firstFailure, failedTransfer_asFailed (herr 0)]
  obtain ⟨w', hw'⟩ := (firstFailureIsReported .grab s t rfl hs h ht).1 _ hfirst
  have hwarn : w = w' := by
    have heq := congrArg replyWarn (Option.some.inj (hresp.symm.trans hw'))
    rwa [errReply, errReply, replyWarn_replyWord, replyWarn_replyWord] at heq
  refine ⟨harb, ?_, polls, 0x00#8, n, before, e, .transport c' r' before.length, ok, hpolls, rfl, hn,
    herr before.length, by rw [hw', hwarn], hports⟩
  refine lineReleased_of_releasedPin (exec_keeps keeps_params h)
    (x := assertedPin s.params .busrq (ofLine s.lines .busrq)) ?_
  rw [hperf.lines]
  simp only [List.foldl_append, lines_assertActs, lines_foldl_noPin (noPin_pollActs _ _),
    lines_foldl_noPin (noPin_failedRead has), lines_foldl_noPin (noPin_tryActs _ _ _), lines_releaseActs,
    ofLine_withLine_same]

end Sys2Proof.Machine

/-! # Banks at rest (R49)

While a transaction runs, every bank is all-input or within reach of a bank it has touched, and the restores reach those. So a
transaction whose restores complete leaves every bank all-input, whatever failed before them. -/

namespace Sys2Proof.Machine

/-! ## Covered registers -/

/-- Every bank present is all-input with its pull-ups on (R49). -/
def RestRegs (p : Params) (e : Expanders) : Prop :=
  ∀ id, chipPresent p.numChips id.chip = true → (bankRegs e id).iodir = allIn p ∧ (bankRegs e id).gppu = 0xFF#8

theorem atRest_iff {s : State} : atRest s = true ↔ RestRegs s.params s.chips := by
  simp only [atRest, List.all_eq_true, mem_banksOf, Bool.and_eq_true, beq_iff_eq]
  rfl

/-- Every bank present has its pull-ups on, and is all-input or within reach of a bus-facing bank among `ids`. -/
def Covered (p : Params) (ids : List BankId) (e : Expanders) : Prop :=
  ∀ id, chipPresent p.numChips id.chip = true →
    ((bankRegs e id).iodir = allIn p ∨ reachesDir p e (inRestoreOrder p ids) id) ∧ (bankRegs e id).gppu = 0xFF#8

theorem mem_inRestoreOrder {p : Params} {ids : List BankId} {id : BankId} :
    id ∈ inRestoreOrder p ids ↔ id ∈ restoreOrder p ∧ id ∈ ids := by
  simp [inRestoreOrder]

theorem reachesDir_mono {p : Params} {e : Expanders} {ids ids' : List BankId} {id : BankId} (h : ids ⊆ ids')
    (hr : reachesDir p e ids id) : reachesDir p e ids' id := by
  obtain ⟨x, hx, h'⟩ := hr
  exact ⟨x, h hx, h'⟩

theorem Covered.mono {p : Params} {e : Expanders} {ids ids' : List BankId} (hc : Covered p ids e) (h : ids ⊆ ids') :
    Covered p ids' e := fun id hp =>
  ⟨(hc id hp).1.imp_right (reachesDir_mono fun _ hx => mem_inRestoreOrder.2
    ⟨(mem_inRestoreOrder.1 hx).1, h (mem_inRestoreOrder.1 hx).2⟩), (hc id hp).2⟩

/-- The direction or the latch register of a bank. -/
def IsDrive (id : BankId) (r : Reg) : Prop := r = .iodir id.bank ∨ r = .olat id.bank

theorem iocon_writeChip_drive {id : BankId} {r : Reg} (hr : IsDrive id r) (x : ChipRegs) (v : Byte) :
    (writeChip x r v).iocon = x.iocon := by
  rcases hr with rfl | rfl <;> exact withPort_iocon ..

theorem gppu_writeBankRegs_drive {id : BankId} {r : Reg} (hr : IsDrive id r) (v : Byte) (k : Bank) (x : BankRegs) :
    (writeBankRegs r v k x).gppu = x.gppu := by
  rcases hr with rfl | rfl <;> simp only [writeBankRegs] <;> split <;> rfl

/-- A write to another bank's registers, or to a latch, leaves the direction register. -/
theorem iodir_writeBankRegs_drive {id : BankId} {r : Reg} (hr : IsDrive id r) (v : Byte) {k : Bank} (x : BankRegs)
    (hk : id.bank ≠ k) : (writeBankRegs r v k x).iodir = x.iodir := by
  rcases hr with rfl | rfl <;> simp only [writeBankRegs]
  · rw [if_neg fun h => hk h.symm]
  · split <;> rfl

section
variable {p : Params} {ids : List BankId} {e : Expanders} {id : BankId} {r : Reg} (hid : id ∈ inRestoreOrder p ids)
  (hr : IsDrive id r) (v : Byte) (h : Covered p ids e)
include hid hr h

theorem Covered.writeReg : Covered p ids (writeReg p e id.chip r v) := by
  have hiocon (c : ChipId) : (chipRegs (Machine.writeReg p e id.chip r v) c).iocon = (chipRegs e c).iocon :=
    (chips_keep e id.chip r v (g := ChipRegs.iocon) (fun x => iocon_writeChip_drive hr x v) p c).1
  intro x hx
  have hreach : reachesDir p (Machine.writeReg p e id.chip r v) (inRestoreOrder p ids) x ↔
      reachesDir p e (inRestoreOrder p ids) x := by rw [reachesDir, answers_congr hiocon, reachesDir]
  rw [hreach, bankRegs_writeReg]
  obtain ⟨hcov, hpull⟩ := h x hx
  by_cases ha : answers p e id.chip x.chip = true
  · rw [if_pos ha, gppu_writeBankRegs_drive hr]
    refine ⟨?_, hpull⟩
    by_cases hk : id.bank = x.bank
    · exact .inr ⟨id, hid, ha, hk⟩
    · rw [iodir_writeBankRegs_drive hr v _ hk]; exact hcov
  · rw [if_neg ha]; exact ⟨hcov, hpull⟩

theorem Covered.failReg (hp : chipPresent p.numChips id.chip = true) : Covered p ids (failReg e id.chip r v) := by
  have hiocon (c : ChipId) : (chipRegs (Machine.failReg e id.chip r v) c).iocon = (chipRegs e c).iocon :=
    (chips_keep e id.chip r v (g := ChipRegs.iocon) (fun x => iocon_writeChip_drive hr x v) p c).2
  intro x hx
  have hreach : reachesDir p (Machine.failReg e id.chip r v) (inRestoreOrder p ids) x ↔
      reachesDir p e (inRestoreOrder p ids) x := by rw [reachesDir, answers_congr hiocon, reachesDir]
  rw [hreach, bankRegs_failReg]
  obtain ⟨hcov, hpull⟩ := h x hx
  by_cases ha : x.chip = id.chip
  · rw [if_pos ha, gppu_writeBankRegs_drive hr]
    refine ⟨?_, hpull⟩
    by_cases hk : id.bank = x.bank
    · exact .inr ⟨id, hid, by simp [answers, ha, hp], hk⟩
    · rw [iodir_writeBankRegs_drive hr v _ hk]; exact hcov
  · rw [if_neg ha]; exact ⟨hcov, hpull⟩

end

/-! ## States whose touched banks cover what is driven -/

/-- The command in progress has touched the banks `ids`, and they cover the registers; once the strobe assert was attempted
the control bank is among them. -/
def TouchedState (p : Params) (ids : List BankId) (s : State) : Prop :=
  s.params = p ∧ (∃ q, s.seq = some q ∧ q.touched = ids ∧ (q.strobed = true → bankOf p .ctrl ∈ ids)) ∧
    Covered p ids s.chips

/-- Within an operation on a bank touched already, the banks touched stay the same and cover what is driven. -/
def KeepsTouched (p : Params) (id : BankId) (s t : State) : Prop :=
  ∀ ids, id ∈ inRestoreOrder p ids → TouchedState p ids s → TouchedState p ids t

/-- Whatever banks are touched, they cover what is driven. -/
def KeepsCover (p : Params) (s t : State) : Prop := (∃ ids, TouchedState p ids s) → ∃ ids, TouchedState p ids t

theorem keepsTouched_rel (p : Params) (id : BankId) : Rel (KeepsTouched p id) where
  refl _ _ _ h := h
  trans h k ids hid hs := k ids hid (h ids hid hs)

theorem keepsCover_rel (p : Params) : Rel (KeepsCover p) where
  refl _ h := h
  trans h k hs := k (h hs)

section
variable {p : Params} {id : BankId}

/-- A port action's part in the sequencer's record does not reach the banks touched. -/
theorem touchedState_seq {ids : List BankId} {s t : State} (h : TouchedState p ids s) (hp : t.params = s.params)
    {f : Sequencer → Sequencer} (hq : t.seq = s.seq.map f) (hf : ∀ q, (f q).touched = q.touched ∧ (f q).strobed = q.strobed)
    (hc : Covered p ids t.chips) : TouchedState p ids t := by
  obtain ⟨hs, ⟨q, hsq, htouched, hstrobed⟩, -⟩ := h
  exact ⟨hp.trans hs, ⟨f q, by rw [hq, hsq]; rfl, (hf q).1.trans htouched, fun h => hstrobed ((hf q).2 ▸ h)⟩, hc⟩

theorem keepsTouched_xferW (hb : BusBanks p) {r : Reg} (hr : IsDrive id r) (v : Byte) :
    Stays (KeepsTouched p id) (xferW id.chip r v) := by
  intro s ids hid h
  have hp : chipPresent p.numChips id.chip = true := mem_restoreOrder_present hb (mem_inRestoreOrder.1 hid).1
  have hparams := h.1
  rcases xferW_cases id.chip r v s with ⟨-, e⟩ | ⟨x, -, e⟩ | ⟨-, e⟩ <;> rw [e]
  · refine touchedState_seq h (f := Sequencer.tick) (by simp) (by simp; rfl) (fun _ => ⟨rfl, rfl⟩) ?_
    simpa [hparams] using h.2.2.writeReg hid hr v
  · refine touchedState_seq h (f := Sequencer.fail id.chip (regAddr s.params r)) (by simp) ?_ (fun _ => ⟨rfl, rfl⟩) ?_
    · cases hq : s.seq with
      | none => simp [hq]
      | some q => simp [hq, stepIndex, Sequencer.fail]
    · simpa using h.2.2.failReg hid hr x hp
  · exact touchedState_seq h (f := fun q => q) (by simp) (by simp) (fun _ => ⟨rfl, rfl⟩) (by simpa using h.2.2)

theorem keepsTouched_xferR (x : BankId) : Stays (KeepsTouched p id) (xferR x) := by
  intro s ids _ h
  rcases xferR_cases x s with ⟨-, e⟩ | ⟨y, -, e⟩ | ⟨-, e⟩ <;> rw [e]
  · exact touchedState_seq h (f := Sequencer.tick) (by simp) (by simp; rfl) (fun _ => ⟨rfl, rfl⟩) (by simpa using h.2.2)
  · refine touchedState_seq h (f := Sequencer.fail x.chip (gpioAddr s.params x.bank)) (by simp) ?_ (fun _ => ⟨rfl, rfl⟩)
      (by simpa using h.2.2)
    cases hq : s.seq with
    | none => simp [hq]
    | some q => simp [hq, stepIndex, Sequencer.fail]
  · exact touchedState_seq h (f := fun q => q) (by simp) (by simp) (fun _ => ⟨rfl, rfl⟩) (by simpa using h.2.2)

theorem keepsTouched_recordWrite (e : Option Event) : Stays (KeepsTouched p id) (recordWrite e) := by
  intro s ids _ h
  cases e <;> exact h

/-- The banks touched, after one more. -/
def withTouched (ids : List BankId) (id : BankId) : List BankId := if ids.contains id then ids else ids ++ [id]

theorem mem_withTouched {ids : List BankId} {x : BankId} : x ∈ withTouched ids id ↔ x ∈ ids ∨ x = id := by
  unfold withTouched
  split
  · rename_i h
    exact ⟨.inl, fun h' => h'.elim (fun h' => h') fun e => e ▸ List.contains_iff_mem.1 h⟩
  · simp

theorem touchedState_touch {ids : List BankId} {s : State} (h : TouchedState p ids s) :
    TouchedState p (withTouched ids id) (touch id s) := by
  obtain ⟨hs, ⟨q, hsq, rfl, hstrobed⟩, hc⟩ := h
  exact ⟨hs, ⟨q.touch id, by rw [Machine.touch, modifySeq_seq, hsq]; rfl, rfl,
    fun h => mem_withTouched.2 (.inl (hstrobed h))⟩, hc.mono fun x hx => mem_withTouched.2 (.inl hx)⟩

/-- An operation that first touches its bank. -/
theorem keepsCover_of_touched {α : Type} {o : Op α} (hid : id ∈ restoreOrder p) (h : Stays (KeepsTouched p id) o) :
    Stays (KeepsCover p) (andThen (act (touch id)) fun _ => o) := by
  rintro s ⟨ids, hs⟩
  exact ⟨withTouched ids id, h (touch id s) _ (mem_inRestoreOrder.2 ⟨hid, mem_withTouched.2 (.inr rfl)⟩)
    (touchedState_touch hs)⟩

theorem keepsTouched_opLaw : OpLaw fun _ o => Stays (KeepsTouched p id) o := stays_opLaw (keepsTouched_rel p id)

theorem keepsCover_opLaw : OpLaw fun _ o => Stays (KeepsCover p) o := stays_opLaw (keepsCover_rel p)

theorem keepsTouched_writeAllIn (hb : BusBanks p) :
    Stays (KeepsTouched p id) fun s => xferW id.chip (.iodir id.bank) (allIn s.params) s :=
  keepsTouched_opLaw.depends _ fun _ => keepsTouched_xferW hb (.inl rfl) _

theorem keepsCover_readBank (hb : BusBanks p) (hid : id ∈ restoreOrder p) : Stays (KeepsCover p) (readBank id) := by
  rw [readBank_eq]
  exact keepsCover_of_touched hid (keepsTouched_opLaw.andThen (keepsTouched_writeAllIn hb) fun _ => keepsTouched_xferR id)

/-- The two writes of `writeBank`, once the bank is touched. -/
theorem keepsTouched_writes (hb : BusBanks p) (v m : Byte) (s : State) : Stays (KeepsTouched p id)
    (match s.params.writeOrder with
      | .latchFirst => andThen (xferW id.chip (.olat id.bank) v) fun _ =>
          xferW id.chip (.iodir id.bank) (dirVal s.params m)
      | .dirFirst => andThen (xferW id.chip (.iodir id.bank) (dirVal s.params m)) fun _ =>
          xferW id.chip (.olat id.bank) v) := by
  have hdir := fun w => keepsTouched_xferW hb (id := id) (.inl rfl) w
  have hlatch := fun w => keepsTouched_xferW hb (id := id) (.inr rfl) w
  split
  · exact keepsTouched_opLaw.andThen (hlatch _) fun _ => hdir _
  · exact keepsTouched_opLaw.andThen (hdir _) fun _ => hlatch _

theorem keepsCover_writeBank (hb : BusBanks p) (hid : id ∈ restoreOrder p) (v m : Byte) :
    Stays (KeepsCover p) (writeBank id v m) := by
  rw [writeBank_eq]
  exact keepsCover_opLaw.depends _ fun s => keepsCover_of_touched hid (keepsTouched_writes hb v m s)

/-- A bank touched already is written without touching another. -/
theorem keepsTouched_writeBank (hb : BusBanks p) (v m : Byte) : Stays (KeepsTouched p id) (writeBank id v m) := by
  rw [writeBank_eq]
  refine keepsTouched_opLaw.depends _ fun s => keepsTouched_opLaw.andThen ?_ fun _ => keepsTouched_writes hb v m s
  intro s ids hid h
  have hsame : withTouched ids id = ids := if_pos (List.contains_iff_mem.2 (mem_inRestoreOrder.1 hid).2)
  have ht := touchedState_touch (id := id) h
  rwa [hsame] at ht

end

/-! ## The forward steps of a transaction -/

section
variable {p : Params}

theorem bankOf_mem_restoreOrder {n : SignalName} (hn : n ∈ [SignalName.ctrl, .data, .addrHi, .addrLo]) :
    bankOf p n ∈ restoreOrder p := List.mem_map_of_mem (f := bankOf p) hn

/-- An operation that begins with the mark of the strobe assert and the touch of the control bank. -/
theorem keepsCover_of_strobed {α : Type} {o : Op α} (h : Stays (KeepsTouched p (bankOf p .ctrl)) o) :
    Stays (KeepsCover p) (andThen (act markStrobed) fun _ => andThen (act (touch (bankOf p .ctrl))) fun _ => o) := by
  rintro s ⟨ids, hs, ⟨q, hsq, htouched, -⟩, hc⟩
  have hin : bankOf p .ctrl ∈ withTouched ids (bankOf p .ctrl) := mem_withTouched.2 (.inr rfl)
  have hseq : (touch (bankOf p .ctrl) (markStrobed s)).seq =
      some (Sequencer.touch (bankOf p .ctrl) { q with strobed := true }) := by
    rw [Machine.touch, modifySeq_seq, markStrobed_seq, hsq]; rfl
  refine ⟨withTouched ids (bankOf p .ctrl), h (touch (bankOf p .ctrl) (markStrobed s)) _
    (mem_inRestoreOrder.2 ⟨bankOf_mem_restoreOrder (by decide), hin⟩)
    ⟨hs, ⟨_, hseq, by rw [← htouched]; rfl, fun _ => hin⟩, hc.mono fun x hx => mem_withTouched.2 (.inl hx)⟩⟩

variable (hb : BusBanks p)
include hb

theorem keepsCover_driveBank {n : SignalName} (hn : n ∈ [SignalName.ctrl, .data, .addrHi, .addrLo]) (v : Byte) :
    Stays (KeepsCover p) (driveBank n v) := by
  intro s hs
  have hp : s.params = p := hs.choose_spec.1
  have h := keepsCover_writeBank hb (bankOf_mem_restoreOrder hn) v 0xFF#8 s hs
  rw [← hp] at h ⊢
  exact h

theorem keepsCover_readDataBank (event : Byte → Event) : Stays (KeepsCover p) (readDataBank event) := by
  intro s hs
  have hp : s.params = p := hs.choose_spec.1
  subst hp
  exact keepsCover_opLaw.andThen (f := fun v => andThen (act (record (event v))) fun _ => result v)
    (keepsCover_readBank hb (bankOf_mem_restoreOrder (n := .data) (by decide)))
    (fun v => keepsCover_opLaw.andThen (fun _ h => h) fun _ => keepsCover_opLaw.result v) s hs

theorem keepsCover_assertStrobes (kind : CycleKind) (m : Byte) (e : Option Event) :
    Stays (KeepsCover p) (assertStrobes kind m e) := by
  intro s hs
  have hp : s.params = p := hs.choose_spec.1
  subst hp
  have hdir := fun w => keepsTouched_xferW hb (id := bankOf s.params .ctrl) (.inl rfl) w
  have hlatch := fun w => keepsTouched_xferW hb (id := bankOf s.params .ctrl) (.inr rfl) w
  have hrecord := keepsTouched_recordWrite (p := s.params) (id := bankOf s.params .ctrl) e
  have hlaw := keepsTouched_opLaw (p := s.params) (id := bankOf s.params .ctrl)
  cases hw : s.params.writeOrder with
  | latchFirst =>
    have heq : assertStrobes kind m e s = andThen (act markStrobed) (fun _ => andThen
        (act (touch (bankOf s.params .ctrl))) fun _ => andThen
          (andThen (xferW (bankOf s.params .ctrl).chip (.olat (bankOf s.params .ctrl).bank) (ctrlValue s.params m)) fun _ =>
            xferW (bankOf s.params .ctrl).chip (.iodir (bankOf s.params .ctrl).bank) (dirVal s.params m))
          fun _ => recordWrite e) s := by
      simp only [assertStrobes, hw, writeBank_eq, andThen, act, markStrobed_params]
    rw [heq]
    exact keepsCover_of_strobed (hlaw.andThen (hlaw.andThen (hlatch _) fun _ => hdir _) fun _ => hrecord) s hs
  | dirFirst =>
    have heq : assertStrobes kind m e s = andThen (act markStrobed) (fun _ => andThen
        (act (touch (bankOf s.params .ctrl))) fun _ => andThen
          (xferW (bankOf s.params .ctrl).chip (.iodir (bankOf s.params .ctrl).bank) (dirVal s.params m))
          fun _ n => (if kindOf n.cycle = kind then andThen (recordWrite e) fun _ =>
              xferW (bankOf s.params .ctrl).chip (.olat (bankOf s.params .ctrl).bank) (ctrlValue n.params m)
            else andThen (xferW (bankOf s.params .ctrl).chip (.olat (bankOf s.params .ctrl).bank) (ctrlValue n.params m))
              fun _ => recordWrite e) n) s := by
      rw [assertStrobes_eq]
      simp only [hw]
    rw [heq]
    refine keepsCover_of_strobed (hlaw.andThen (hdir _) fun _ => hlaw.depends _ fun n => ?_) s hs
    exact law_ite (P := fun _ o => Stays (KeepsTouched s.params (bankOf s.params .ctrl)) o)
      (hlaw.andThen hrecord fun _ => hlatch _) (hlaw.andThen (hlatch _) fun _ => hrecord)

variable (a : Addr) (port v : Byte)

theorem keepsCover_readMemForward : Stays (KeepsCover p) (readMemForward p a) :=
  keepsCover_opLaw.andThen (keepsCover_driveBank hb (by decide) _) fun _ =>
    keepsCover_opLaw.andThen (keepsCover_driveBank hb (by decide) _) fun _ =>
      keepsCover_opLaw.andThen (keepsCover_assertStrobes hb _ _ _) fun _ => keepsCover_readDataBank hb _

theorem keepsCover_writeMemForward : Stays (KeepsCover p) (writeMemForward p a v) :=
  keepsCover_opLaw.andThen (keepsCover_driveBank hb (by decide) _) fun _ =>
    keepsCover_opLaw.andThen (keepsCover_driveBank hb (by decide) _) fun _ =>
      keepsCover_opLaw.andThen (keepsCover_driveBank hb (by decide) _) fun _ => keepsCover_assertStrobes hb _ _ _

theorem keepsCover_readIoForward : Stays (KeepsCover p) (readIoForward p port) :=
  keepsCover_opLaw.andThen (keepsCover_driveBank hb (by decide) _) fun _ =>
    keepsCover_opLaw.andThen (keepsCover_assertStrobes hb _ _ _) fun _ => keepsCover_readDataBank hb _

theorem keepsCover_writeIoForward : Stays (KeepsCover p) (writeIoForward p port v) :=
  keepsCover_opLaw.andThen (keepsCover_driveBank hb (by decide) _) fun _ =>
    keepsCover_opLaw.andThen (keepsCover_driveBank hb (by decide) _) fun _ => keepsCover_assertStrobes hb _ _ _

end

/-! ## The restores -/

/-- The restores of the touched banks, once completed, leave every bank all-input. -/
theorem Covered.restored {p : Params} {ids : List BankId} {e : Expanders} (h : Covered p ids e) :
    RestRegs p ((restoresActs p (inRestoreOrder p ids)).foldl (Action.chips p) e) := by
  intro id hid
  obtain ⟨hcov, hpull⟩ := h id hid
  rw [bankRegs_restores]
  split
  · exact ⟨rfl, hpull⟩
  · rename_i hreach
    exact ⟨hcov.resolve_right hreach, hpull⟩

theorem RestRegs.covered {p : Params} {e : Expanders} (h : RestRegs p e) (ids : List BankId) : Covered p ids e :=
  fun id hid => ⟨.inl (h id hid).1, (h id hid).2⟩

theorem TouchedState.touchedInOrder {p : Params} {ids : List BankId} {s : State} (h : TouchedState p ids s) :
    touchedInOrder s = inRestoreOrder p ids := by
  obtain ⟨rfl, ⟨q, hsq, rfl, -⟩, -⟩ := h
  simp [Machine.touchedInOrder, hsq, inRestoreOrder]

theorem touchedState_fresh {p : Params} {s : State} (hp : s.params = p) (hq : s.seq ≠ none) (h : RestRegs p s.chips) :
    TouchedState p [] (freshTransaction s) := by
  obtain ⟨q, hsq⟩ := Option.ne_none_iff_exists'.1 hq
  exact ⟨hp, ⟨{ q with touched := [], strobed := false }, by simp [hsq], rfl, nofun⟩, h.covered []⟩

end Sys2Proof.Machine

/-! # The rest invariant (R49)

A command none of whose transfers failed leaves every bank all-input: each operation outside a transaction writes
directions all-input only, and a transaction restores what it touched. -/

namespace Sys2Proof.Machine

/-! ## No failed transfer -/

/-- The entry of a failed transfer (R175). -/
def isFailure (e : Event) : Bool := (failedTransfer e).isSome

theorem isLogged_of_isFailure (e : Event) (he : isFailure e = true) : isLogged e = true := by
  cases e
  case xferW | xferR => rfl
  all_goals cases he

/-- No failed transfer was recorded between the two states. -/
def NoFailure (s t : State) : Prop := t.history.filter isFailure = s.history.filter isFailure

theorem noFailure_iff {s t : State} (h : HistoryGrows s t) : noNewFailure s t = true ↔ NoFailure s t := by
  obtain ⟨new, hnew⟩ := h
  simp [noNewFailure, NoFailure, newEvents, ← hnew, List.filter_eq_nil_iff, isFailure]

theorem NoFailure.parts {s t u : State} (hst : HistoryGrows s t) (htu : HistoryGrows t u) (h : NoFailure s u) :
    NoFailure s t ∧ NoFailure t u := by
  obtain ⟨as, has⟩ := hst
  obtain ⟨bs, hbs⟩ := htu
  simpa [NoFailure, ← hbs, ← has] using h

/-- Actions that leave no failed transfer in the history. -/
theorem Did.noFailure {acts : List Action} {f : Sequencer → Sequencer} {s t : State} (h : Did acts f s t)
    (hn : NoFailure s t) : ∀ a ∈ acts, failedTransfer (a.event s.params) = none := by
  intro a ha
  have hlog := congrArg (List.filter isFailure) h.log
  rw [filter_filter_isLogged isLogged_of_isFailure, List.filter_append, filter_filter_isLogged isLogged_of_isFailure, hn] at hlog
  have hnil := List.filter_eq_nil_iff.1 (List.self_eq_append_right.1 hlog)
  simpa [isFailure] using hnil _ (List.mem_map_of_mem ha)

/-! ## What goes on within a command -/

/-- A command goes on: the history grows, and the parameters and the command in progress stay. -/
structure Continues (s t : State) : Prop where
  grows : HistoryGrows s t
  params : t.params = s.params
  seq : t.seq.isSome = s.seq.isSome

theorem continues_rel : Rel Continues where
  refl s := ⟨historyGrows_rel.refl s, rfl, rfl⟩
  trans h k := ⟨historyGrows_rel.trans h.grows k.grows, k.params.trans h.params, k.seq.trans h.seq⟩

theorem continues_modifySeq (f : Sequencer → Sequencer) (s : State) : Continues s (modifySeq f s) :=
  ⟨historyGrows_rel.refl s, rfl, by simp⟩

theorem continues_xferW (c : ChipId) (r : Reg) (v : Byte) : Stays Continues (xferW c r v) := fun s =>
  ⟨historyGrows_xferW c r v s, (sameOwnFields_xferW c r v s).params, (ends_xferW c r v s).seq⟩

theorem continues_xferR (id : BankId) : Stays Continues (xferR id) := fun s =>
  ⟨historyGrows_xferR id s, (sameOwnFields_xferR id s).params, (ends_xferR id s).seq⟩

theorem continues_transferLaw : TransferLaw fun _ o => Stays Continues o where
  toOpLaw := stays_opLaw continues_rel
  touch _ := continues_modifySeq _
  freshTransaction := continues_modifySeq _
  writeAllIn _ s := continues_xferW _ _ _ s
  read := continues_xferR
  markStrobed := continues_modifySeq _
  cycle _ _ s := ⟨s.history.prefix_append _, rfl, rfl⟩
  writeDir c _ v := continues_xferW c _ v
  writeLatch c _ v := continues_xferW c _ v

/-! ## Banks at rest stay at rest -/

/-- What a command's operation does with banks at rest, when it ends and no transfer failed: they are at rest again. -/
structure Rests (p : Params) (s : State) (k : Res Unit) (t : State) : Prop extends Continues s t where
  rest : s.params = p → s.seq.isSome = true → k ≠ .hung → NoFailure s t → RestRegs p s.chips → RestRegs p t.chips

theorem rests_outcomeRel (p : Params) : OutcomeRel (Rests p) where
  refl s := ⟨continues_rel.refl s, fun _ _ _ _ h => h⟩
  trans h k := ⟨continues_rel.trans h.toContinues k.toContinues, fun hp hq hk hn hr => by
    obtain ⟨h1, h2⟩ := hn.parts h.grows k.grows
    exact k.rest (h.params.trans hp) (h.seq.trans hq) hk h2 (h.rest hp hq nofun h1 hr)⟩
  cleanup {_ _ _ _ o} h k := ⟨continues_rel.trans h.toContinues k.toContinues, fun hp hq hk hn hr => by
    obtain ⟨h1, h2⟩ := hn.parts h.grows k.grows
    have ho : o ≠ .hung := fun e => hk (by rw [e]; rfl)
    exact k.rest (h.params.trans hp) (h.seq.trans hq) ho h2 (h.rest hp hq nofun h1 hr)⟩

section
variable {p : Params}

/-- An operation that leaves the registers alone. -/
theorem rests_of_chips {s t : State} {k : Res Unit} (h : Continues s t) (hc : t.chips = s.chips) : Rests p s k t :=
  ⟨h, fun _ _ _ _ hr => hc ▸ hr⟩

theorem RestRegs.writeAllIn {e : Expanders} (h : RestRegs p e) (id : BankId) :
    RestRegs p (writeReg p e id.chip (.iodir id.bank) (allIn p)) := by
  intro x hx
  rw [bankRegs_restore]
  split
  · exact ⟨rfl, (h x hx).2⟩
  · exact h x hx

theorem rests_writeAllIn (id : BankId) : Has (Rests p) fun s => xferW id.chip (.iodir id.bank) (allIn s.params) s := by
  intro s
  refine ⟨continues_xferW _ _ _ s, fun hp _ _ hn hr => ?_⟩
  subst hp
  dsimp only at hn ⊢
  cases hx : (drawAt s 0).xfer with
  | ok =>
    obtain ⟨t, e, hd⟩ := did_xferW id.chip (.iodir id.bank) (allIn s.params) hx
    rw [e, hd.chips]
    exact hr.writeAllIn id
  | err x =>
    obtain ⟨t, e, hd⟩ := did_xferW_err id.chip (.iodir id.bank) (allIn s.params) hx
    rw [e] at hn
    cases hd.noFailure hn _ (List.mem_singleton.2 rfl)
  | hang =>
    rcases xferW_cases id.chip (.iodir id.bank) (allIn s.params) s with ⟨h, -⟩ | ⟨_, h, -⟩ | ⟨-, e⟩
    · rw [hx] at h; cases h
    · rw [hx] at h; cases h
    · rw [e]; simpa using hr

theorem rests_read (id : BankId) : Has (Rests p) (xferR id) := fun s =>
  rests_of_chips (continues_xferR id s) (xferR_chips id s)

theorem rests_readLaw : ReadLaw fun _ o => Has (Rests p) o :=
  { has_opLaw (rests_outcomeRel p) with
    touch := fun _ s => rests_of_chips (continues_modifySeq _ s) rfl
    freshTransaction := fun s => rests_of_chips (continues_modifySeq _ s) rfl
    writeAllIn := rests_writeAllIn
    read := rests_read }

theorem rests_pinLaw (l : Line) : PinLaw (fun _ o => Has (Rests p) o) l :=
  { has_opLaw (rests_outcomeRel p) with
    level := fun v => has_act fun s => rests_of_chips
      ⟨(historyGrows_pinFrame l).level v s, (sameButPin_gpioWrite l v s).params, by simp [(did_gpioWrite l v s).seq]⟩
      (sameButPin_gpioWrite l v s).chips
    dir := fun v => has_act fun s => rests_of_chips
      ⟨(historyGrows_pinFrame l).dir v s, (sameButPin_gpioDir l v s).params, by simp [(did_gpioDir l v s).seq]⟩
      (sameButPin_gpioDir l v s).chips
    pullUp := fun v => has_act fun s => rests_of_chips
      ⟨(historyGrows_pinFrame l).pullUp v s, (sameButPin_gpioPullUp l v s).params, by simp [(did_gpioPullUp l v s).seq]⟩
      (sameButPin_gpioPullUp l v s).chips }

end

/-! ## Transactions -/

section
variable {p : Params}

/-- A cleanup has the last word on the state. -/
theorem withCleanup_ended {α : Type} {o : Op α} {c : Op Unit} {s : State} (h : (withCleanup o c s).1 ≠ .hung) :
    (o s).1 ≠ .hung ∧ (c (o s).2).1 ≠ .hung ∧ (withCleanup o c s).2 = (c (o s).2).2 := by
  simp only [withCleanup] at h ⊢
  rcases ho : o s with ⟨_ | _ | _, m⟩ <;> simp only [ho] at h ⊢
  · rcases hc : c m with ⟨_ | _ | _, t⟩ <;> simp_all
  · rcases hc : c m with ⟨_ | _ | _, t⟩ <;> simp_all
  · exact absurd rfl h

/-- The restores of several banks, attempted whatever failed, do what each could. -/
theorem restores_cases (ids : List BankId) (s : State) : (attemptAll (ids.map restoreBank) s).1 = .hung ∨
    ∃ f x, Did (triesActs s.params ids x) f s (attemptAll (ids.map restoreBank) s).2 := by
  induction ids generalizing s with
  | nil => exact .inr ⟨id, fun _ => .ok, Did.refl s⟩
  | cons id ids ih =>
    rw [List.map_cons, attemptAll_cons]
    by_cases h : (withCleanup (restoreBank id) (attemptAll (ids.map restoreBank)) s).1 = .hung
    · exact .inl h
    · obtain ⟨h1, h2, e⟩ := withCleanup_ended h
      obtain ⟨r, y, m, g, hm, -, hd⟩ := (restoreBank_cases id s).resolve_left h1
      rw [hm] at e h2
      obtain ⟨f, x, hd'⟩ := (ih m).resolve_left h2
      rw [hd.params] at hd'
      rw [e]
      have hdid : Did (triesActs s.params (id :: ids) fun | 0 => y | i + 1 => x i) (f ∘ g) s _ := hd.trans hd'
      exact .inr ⟨_, _, hdid⟩

/-- Restores none of which failed were completed. -/
theorem triesActs_of_noFailure {ids : List BankId} {x : Nat → XferDraw}
    (h : ∀ a ∈ triesActs p ids x, failedTransfer (a.event p) = none) : triesActs p ids x = restoresActs p ids := by
  induction ids generalizing x with
  | nil => rfl
  | cons id ids ih =>
    have hhead : tryActs p id (x 0) = restoreActs p id := by
      cases hx : x 0 with
      | err v =>
        have := h (.failWrite id.chip (.iodir id.bank) (allIn p) v) (by simp [triesActs, hx, tryActs])
        cases this
      | _ => rfl
    rw [triesActs, hhead, ih fun a ha => h a (List.mem_append.2 (.inr ha))]
    rfl

theorem restores_rest {ids : List BankId} {s : State} (hs : s.params = p) (hc : Covered p ids s.chips)
    (hk : (attemptAll ((inRestoreOrder p ids).map restoreBank) s).1 ≠ .hung)
    (hn : NoFailure s (attemptAll ((inRestoreOrder p ids).map restoreBank) s).2) :
    RestRegs p (attemptAll ((inRestoreOrder p ids).map restoreBank) s).2.chips := by
  obtain ⟨f, x, hd⟩ := (restores_cases (inRestoreOrder p ids) s).resolve_left hk
  rw [hs] at hd
  have hall := hd.noFailure hn
  rw [hs] at hall
  rw [hd.chips, hs, triesActs_of_noFailure hall]
  exact hc.restored

theorem strobedNow_touchedState {ids : List BankId} {s : State} (h : TouchedState p ids s) (hs : strobedNow s = true) :
    bankOf p .ctrl ∈ inRestoreOrder p ids := by
  obtain ⟨-, ⟨q, hsq, -, hstrobed⟩, -⟩ := h
  rw [strobedNow, hsq] at hs
  exact mem_inRestoreOrder.2 ⟨bankOf_mem_restoreOrder (by decide), hstrobed hs⟩

theorem keepsTouched_deassertStrobes (hb : BusBanks p) (m : Byte) {ids : List BankId} {s : State}
    (h : TouchedState p ids s) (hs : strobedNow s = true) : TouchedState p ids (deassertStrobes m s).2 := by
  have hp : s.params = p := h.1
  rw [deassertStrobes, hp]
  exact keepsTouched_writeBank hb _ _ s ids (strobedNow_touchedState h hs) h

theorem cleanup_rest (hb : BusBanks p) (m : Byte) {ids : List BankId} {s : State} (h : TouchedState p ids s)
    (hk : (transactionCleanup m s).1 ≠ .hung) (hn : NoFailure s (transactionCleanup m s).2) :
    RestRegs p (transactionCleanup m s).2.chips := by
  unfold transactionCleanup at hk hn ⊢
  rw [h.touchedInOrder] at hk hn ⊢
  cases hs : strobedNow s with
  | false =>
    rw [hs] at hk hn
    exact restores_rest h.1 h.2.2 hk hn
  | true =>
    simp only [hs, if_true, List.singleton_append, attemptAll_cons] at hk hn ⊢
    obtain ⟨-, hk', e⟩ := withCleanup_ended hk
    have ht := keepsTouched_deassertStrobes hb m h hs
    have hd := law_deassertStrobes continues_transferLaw.toWriteLaw m s
    have hr := law_restores continues_transferLaw.toReadLaw (inRestoreOrder p ids) (deassertStrobes m s).2
    rw [e] at hn ⊢
    exact restores_rest ht.1 ht.2.2 hk' (hn.parts hd.grows hr.grows).2

/-- A transaction whose forward steps touch the banks they drive. -/
theorem rests_transaction {α : Type} {o : Op α} {m : Params → Byte} {forward : Params → Op α} (hb : BusBanks p)
    (ho : o = fun s => transaction (m s.params) (forward s.params) s) (hf : Stays (KeepsCover p) (forward p))
    (hc : ∀ p, Stays Continues (forward p)) : Has (Rests p) o := by
  subst ho
  intro s
  refine ⟨law_transaction continues_transferLaw.toWriteLaw (m s.params) (hc s.params) s, fun hp hq hk hn hr => ?_⟩
  subst hp
  have hk' : (withCleanup (forward s.params) (transactionCleanup (m s.params)) (freshTransaction s)).1 ≠ .hung := fun e => by
    dsimp only at hk
    rw [transaction, e] at hk
    exact hk rfl
  obtain ⟨-, hcleanup, e⟩ := withCleanup_ended hk'
  obtain ⟨ids, hids⟩ := hf _ ⟨[], touchedState_fresh rfl (Option.isSome_iff_ne_none.1 hq) hr⟩
  have hn' : NoFailure s (transactionCleanup (m s.params) (forward s.params (freshTransaction s)).2).2 := e ▸ hn
  dsimp only
  rw [transaction, e]
  exact cleanup_rest hb _ hids hcleanup
    (hn'.parts (hc s.params (freshTransaction s)).grows (law_transactionCleanup continues_transferLaw.toWriteLaw _ _).grows).2

end

/-! ## Commands -/

section
variable {p : Params} (hb : BusBanks p) (a : Addr) (port v : Byte)
include hb

theorem rests_readMemoryOp : Has (Rests p) (readMemoryOp a) :=
  rests_transaction (forward := fun p => readMemForward p a) hb (readMemoryOp_eq a) (keepsCover_readMemForward hb a) fun _ =>
    law_readMemForward continues_transferLaw _ a

theorem rests_writeMemoryOp : Has (Rests p) (writeMemoryOp a v) :=
  rests_transaction (forward := fun p => writeMemForward p a v) hb (writeMemoryOp_eq a v) (keepsCover_writeMemForward hb a v) fun _ =>
    law_writeMemForward continues_transferLaw _ a v

theorem rests_readIoOp : Has (Rests p) (readIoOp port) :=
  rests_transaction (forward := fun p => readIoForward p port) hb (readIoOp_eq port) (keepsCover_readIoForward hb port) fun _ =>
    law_readIoForward continues_transferLaw _ port

theorem rests_writeIoOp : Has (Rests p) (writeIoOp port v) :=
  rests_transaction (forward := fun p => writeIoForward p port v) hb (writeIoOp_eq port v) (keepsCover_writeIoForward hb port v) fun _ =>
    law_writeIoForward continues_transferLaw _ port v

/-- The operations of a command other than `configure` leave banks at rest. -/
theorem rests_commandLaw {i : Instr} (hi : i ≠ .configure) : CommandLaw i fun _ o => Has (Rests p) o :=
  { has_opLaw (rests_outcomeRel p) with
    raise := fun _ s => rests_of_chips (continues_modifySeq _ s) rfl
    setWarn := fun s => rests_of_chips (continues_modifySeq _ s) rfl
    warning := fun s => rests_of_chips ⟨s.history.prefix_append _, rfl, rfl⟩ rfl
    reading := fun _ => rests_readLaw
    readMemory := fun _ => rests_readMemoryOp hb
    writeMemory := fun _ => rests_writeMemoryOp hb
    readIo := fun _ => rests_readIoOp hb
    writeIo := fun _ => rests_writeIoOp hb
    write := fun h => absurd h hi
    pins := fun l _ => rests_pinLaw l
    arb := fun _ _ s => rests_of_chips ⟨historyGrows_rel.refl s, rfl, rfl⟩ rfl
    configured := fun h => absurd h hi
    pending := fun _ _ s => rests_of_chips ⟨historyGrows_rel.refl s, rfl, rfl⟩ rfl }

end

theorem isFailure_response (w : Reply) : isFailure (.response w) = false := rfl

/-- A command other than `configure`, none of whose transfers failed, leaves banks at rest. -/
theorem exec_rests {i : Instr} {s t : State} (hi : isCommand i = true) (hc : i ≠ .configure) (h : exec i s = .next t)
    (ht : t.hung = false) (hn : noNewFailure s t = true) (hr : RestRegs s.params s.chips) :
    RestRegs s.params t.chips := by
  have hreg := (command_next ((exec_command hi s).symm.trans h)).1
  have hbody := law_commandBody hi (rests_commandLaw (busBanks_of_registryOk hreg) hc) (setSeq (some (freshSeq i)) s)
  obtain ⟨m, he⟩ := command_answered hi h ht
  have hdone : ∀ w, t = respond w m → (commandBody i (setSeq (some (freshSeq i)) s)).1.outcome ≠ .hung →
      (commandBody i (setSeq (some (freshSeq i)) s)).2 = m → RestRegs s.params t.chips := by
    rintro w rfl hk e
    rw [e] at hbody
    have hgrow : HistoryGrows s (respond w m) := hbody.grows.trans (m.history.prefix_append _)
    refine hbody.rest rfl rfl hk ?_ hr
    have := (noFailure_iff hgrow).1 hn
    simpa [NoFailure, respond, isFailure_response] using this
  rcases he with ⟨a, hb, e⟩ | ⟨x, hb, e⟩
  · exact hdone _ e (by rw [hb]; exact nofun) (by rw [hb])
  · exact hdone _ e (by rw [hb]; exact nofun) (by rw [hb])

/-! ## Configure -/

/-- The writes of a sequence that went through. -/
theorem did_inOrder_of_ok {ws : List RegWrite} {os : List (Op Unit)} (h : List.Forall₂ RegWrite.Performs ws os)
    {s t : State} (hok : inOrder os s = (.ok (), t)) : ∃ f, Did (ws.map RegWrite.act) f s t := by
  induction h generalizing s with
  | nil => cases hok; exact ⟨id, Did.refl _⟩
  | @cons w o ws os hw _ ih =>
    obtain ⟨g, s', hd0, e0⟩ := hw s
    rw [inOrder, andThen, e0] at hok
    cases hx : (drawAt s' 0).xfer with
    | ok =>
      obtain ⟨m, e1, hd1⟩ := did_xferW w.chip w.reg w.value hx
      rw [e1] at hok
      obtain ⟨f, hd2⟩ := ih hok
      exact ⟨_, (hd0.trans hd1).trans hd2⟩
    | err x =>
      obtain ⟨m, e1, -⟩ := did_xferW_err w.chip w.reg w.value hx
      rw [e1] at hok
      cases hok
    | hang =>
      rcases xferW_cases w.chip w.reg w.value s' with ⟨h, -⟩ | ⟨_, h, -⟩ | ⟨-, e⟩
      · rw [hx] at h; cases h
      · rw [hx] at h; cases h
      · rw [e] at hok; cases hok

theorem restRegs_configureWrites (p : Params) (e : Expanders) :
    RestRegs p (((configureWrites p).map RegWrite.act).foldl (Action.chips p) e) := by
  intro id hid
  rw [bankRegs_configureWrites, if_pos (mem_banksOf.2 hid)]
  exact ⟨rfl, rfl⟩

/-- A `configure` that leaves the block configured wrote every register. -/
theorem configureOp_rest {p : Params} {s : State} (hp : s.params = p) (h : (configureOp s).2.configured = true) :
    RestRegs p (configureOp s).2.chips := by
  subst hp
  have hconf := configured_configureTransfers s.params (setArb .released (setConfigured false s))
  rcases hi : inOrder (configureTransfers s.params) (setArb .released (setConfigured false s)) with ⟨_ | x | _, m⟩ <;>
    simp only [configureOp, andThen, hi] at h hconf ⊢
  · obtain ⟨f, hd⟩ := did_inOrder_of_ok (performs_configureTransfers s.params) hi
    obtain ⟨g, hl⟩ := did_configureLines allLines (p := s.params) (s := m) hd.params
    change RestRegs s.params (configureLines allLines m).chips
    rw [hl.chips, show m.params = s.params from hd.params, chips_configureLineActs, hd.chips]
    exact restRegs_configureWrites s.params _
  · rw [hconf] at h; cases h
  · rw [hconf] at h; cases h

theorem exec_configure_rest {s t : State} (h : exec .configure s = .next t) (ht : t.configured = true) :
    RestRegs s.params t.chips := by
  obtain ⟨-, he⟩ := command_next ((exec_command (i := .configure) rfl s).symm.trans h)
  have hrest := configureOp_rest (p := s.params) (s := setSeq (some (freshSeq .configure)) s) rfl
  have hbody : commandBody .configure = noData configureOp := rfl
  rw [he, hbody] at ht ⊢
  simp only [noData, andThen] at ht ⊢
  rcases hm : configureOp (setSeq (some (freshSeq .configure)) s) with ⟨_ | x | _, m⟩ <;> rw [hm] at ht hrest <;>
    exact hrest ht

/-- Settles O57: `configure` writes every register it leaves the block configured with, and every other command restores what
it drove. -/
theorem stepKeepsRestInvariant : Obligations.StepKeepsRestInvariant := by
  have hrest {s t : State} {i : Instr} (he : exec i s = .next t) (h : RestRegs s.params t.chips) : atRest t = true :=
    atRest_iff.2 (exec_keeps keeps_params he ▸ h)
  refine ⟨fun s t h ht => hrest h (exec_configure_rest h ht), fun s t hu hs h ht hn => ?_⟩
  rcases step_commandPort_cases hu h with rfl | ⟨i, c, hi, he⟩ | ⟨w, c, rfl⟩
  · exact ⟨hu, hs⟩
  · refine ⟨(exec_keeps keeps_uopPort he).trans hu, fun htc => hrest he ?_⟩
    by_cases hc : i = .configure
    · subst hc
      exact exec_configure_rest he htc
    · have hsc : s.configured = true := (exec_keeps (keeps_configured hc) he).symm.trans htc
      exact exec_rests hi hc he ht hn (atRest_iff.1 (hs hsc))
  · exact ⟨hu, hs⟩

end Sys2Proof.Machine

/-! # One failed transfer

Up to its first failed transfer an operation uses one draw of the environment for each of its transfers. So a single failure
fails the step it falls on, with its index, and finds the restores answered. -/

namespace Sys2Proof.Machine

/-! ## Counting transfers -/

/-- `n` draws were used and counted as port actions; the record's first error is now as `e` says. -/
def Advances (n : Nat) (e : Sequencer → Option Err) (s t : State) : Prop :=
  (∀ i, drawAt t i = drawAt s (n + i)) ∧
    ∃ q q', s.seq = some q ∧ t.seq = some q' ∧ q'.k = q.k + n ∧ q'.warn = q.warn ∧ q'.firstErr = e q

/-- The first error after one of port action `n` from now. -/
def failedAt (n : Nat) (c : ChipId) (r : Byte) (q : Sequencer) : Option Err :=
  some (q.firstErr.getD (.transport c r (q.k + n)))

theorem Advances.trans {n m : Nat} {e : Sequencer → Option Err} {s t u : State} (h : Advances n Sequencer.firstErr s t)
    (k : Advances m e t u) (he : ∀ q q' : Sequencer, q'.k = q.k + n → q'.firstErr = q.firstErr → e q' = e' q) :
    Advances (n + m) e' s u := by
  obtain ⟨hd, q, q', hs, ht, hk, hw, hf⟩ := h
  obtain ⟨hd', q1, q2, ht', hu, hk', hw', hf'⟩ := k
  obtain rfl : q' = q1 := Option.some.inj (ht.symm.trans ht')
  exact ⟨fun i => by rw [hd', hd, Nat.add_assoc], q, q2, hs, hu, by rw [hk', hk, Nat.add_assoc], hw'.trans hw,
    hf'.trans (he q q' hk hf)⟩

/-- The operation consists of `N` transfers and stops at the first that is not answered. -/
def Steps {α : Type} (N : Nat) (o : Op α) : Prop := ∀ s, s.seq ≠ none →
  match (o s).1 with
  | .ok _ => TransfersAnswered N s ∧ Advances N Sequencer.firstErr s (o s).2
  | .failed _ => ∃ n v c r, n < N ∧ TransfersAnswered n s ∧ (drawAt s n).xfer = .err v ∧
      Advances (n + 1) (failedAt n c r) s (o s).2
  | .hung => ∃ n < N, (drawAt s n).xfer = .hang

section
variable {α β : Type} {N M : Nat}

theorem Advances.seq_ne_none {n : Nat} {e : Sequencer → Option Err} {s t : State} (h : Advances n e s t) :
    t.seq ≠ none := by
  obtain ⟨-, q, q', -, ht, -⟩ := h
  rw [ht]; exact nofun

theorem transfersAnswered_add {n m : Nat} {s t : State} (hs : TransfersAnswered n s) (ht : TransfersAnswered m t)
    (hd : ∀ i, drawAt t i = drawAt s (n + i)) : TransfersAnswered (n + m) s := fun i hi => by
  by_cases h : i < n
  · exact hs i h
  · have := ht (i - n) (by omega)
    rwa [hd, Nat.add_sub_cancel' (by omega)] at this

theorem steps_andThen {o : Op α} {f : α → Op β} (ho : Steps N o) (hf : ∀ a, Steps M (f a)) :
    Steps (N + M) (andThen o f) := by
  intro s hs
  have h := ho s hs
  rcases hos : o s with ⟨a | e | _, m⟩ <;> simp only [andThen, hos] at h ⊢
  · obtain ⟨hans, hadv⟩ := h
    have h' := hf a m hadv.seq_ne_none
    rcases hfa : f a m with ⟨b | e | _, t⟩ <;> simp only [hfa] at h' ⊢
    · exact ⟨transfersAnswered_add hans h'.1 hadv.1, hadv.trans h'.2 fun _ _ _ h => h⟩
    · obtain ⟨n, v, c, r, hn, hans', hx, hadv'⟩ := h'
      refine ⟨N + n, v, c, r, by omega, transfersAnswered_add hans hans' hadv.1, by rwa [← hadv.1], ?_⟩
      exact hadv.trans hadv' fun q q' hk hfirst => by rw [failedAt, failedAt, hk, hfirst, Nat.add_assoc]
    · obtain ⟨n, hn, hx⟩ := h'
      exact ⟨N + n, by omega, by rwa [← hadv.1]⟩
  · obtain ⟨n, v, c, r, hn, h⟩ := h
    exact ⟨n, v, c, r, by omega, h⟩
  · obtain ⟨n, hn, h⟩ := h
    exact ⟨n, by omega, h⟩

theorem steps_depends (f : State → Op α) (h : ∀ m, Steps N (f m)) : Steps N fun s => f s s := fun s => h s s

theorem steps_update {f : State → State} (hd : ∀ s i, drawAt (f s) i = drawAt s i)
    (hq : ∀ s q, s.seq = some q → ∃ q', (f s).seq = some q' ∧ q'.k = q.k ∧ q'.warn = q.warn ∧ q'.firstErr = q.firstErr) :
    Steps 0 (act f) := fun s hs => by
  obtain ⟨q, hsq⟩ := Option.ne_none_iff_exists'.1 hs
  obtain ⟨q', h⟩ := hq s q hsq
  exact ⟨not_lt_zero_answered s, fun i => (hd s i).trans (by rw [Nat.zero_add]), q, q', hsq, h⟩

theorem steps_modifySeq {f : Sequencer → Sequencer} (h : ∀ q, (f q).k = q.k ∧ (f q).warn = q.warn ∧ (f q).firstErr = q.firstErr) :
    Steps 0 (act (modifySeq f)) :=
  steps_update (fun _ _ => rfl) fun s q hq => ⟨f q, by simp [hq], h q⟩

theorem steps_record (e : Event) : Steps 0 (act (record e)) :=
  steps_update (fun _ _ => rfl) fun _ q hq => ⟨q, hq, rfl, rfl, rfl⟩

theorem steps_result (a : α) : Steps 0 (result a) := fun s hs => by
  obtain ⟨q, hsq⟩ := Option.ne_none_iff_exists'.1 hs
  exact ⟨not_lt_zero_answered s, fun i => by rw [Nat.zero_add]; rfl, q, q, hsq, hsq, rfl, rfl, rfl⟩

/-- One port action, counted. -/
theorem Did.advances {a : Action} {f : Sequencer → Sequencer} {e : Sequencer → Option Err} {s t : State}
    (h : Did [a] f s t) (ha : a.isPort = true) (hs : s.seq ≠ none)
    (hf : ∀ q, (f q).k = q.k + 1 ∧ (f q).warn = q.warn ∧ (f q).firstErr = e q) : Advances 1 e s t := by
  obtain ⟨q, hsq⟩ := Option.ne_none_iff_exists'.1 hs
  exact ⟨fun i => by rw [h.draws]; simp [ha], q, f q, hsq, by rw [h.seq, hsq]; rfl, hf q⟩

theorem transfersAnswered_one {s : State} (h : (drawAt s 0).xfer = .ok) : TransfersAnswered 1 s := fun i hi => by
  obtain rfl : i = 0 := by omega
  exact h

theorem steps_xferW (c : ChipId) (r : Reg) (v : Byte) : Steps 1 (xferW c r v) := by
  intro s hs
  cases hx : (drawAt s 0).xfer with
  | ok =>
    obtain ⟨t, e, hd⟩ := did_xferW c r v hx
    rw [e]
    exact ⟨transfersAnswered_one hx, hd.advances rfl hs fun _ => ⟨rfl, rfl, rfl⟩⟩
  | err x =>
    obtain ⟨t, e, hd⟩ := did_xferW_err c r v hx
    rw [e]
    exact ⟨0, x, c, regAddr s.params r, by omega, not_lt_zero_answered s, hx,
      hd.advances rfl hs fun _ => ⟨rfl, rfl, rfl⟩⟩
  | hang =>
    rcases xferW_cases c r v s with ⟨h, -⟩ | ⟨_, h, -⟩ | ⟨-, e⟩
    · rw [hx] at h; cases h
    · rw [hx] at h; cases h
    · rw [e]; exact ⟨0, by omega, hx⟩

theorem steps_xferR (id : BankId) : Steps 1 (xferR id) := by
  intro s hs
  cases hx : (drawAt s 0).xfer with
  | ok =>
    obtain ⟨v, t, e, hd⟩ := did_xferR id hx
    rw [e]
    exact ⟨transfersAnswered_one hx, hd.advances rfl hs fun _ => ⟨rfl, rfl, rfl⟩⟩
  | err x =>
    obtain ⟨t, e, hd⟩ := did_xferR_err id hx
    rw [e]
    exact ⟨0, x, id.chip, gpioAddr s.params id.bank, by omega, not_lt_zero_answered s, hx,
      hd.advances rfl hs fun _ => ⟨rfl, rfl, rfl⟩⟩
  | hang =>
    rcases xferR_cases id s with ⟨h, -⟩ | ⟨_, h, -⟩ | ⟨-, e⟩
    · rw [hx] at h; cases h
    · rw [hx] at h; cases h
    · rw [e]; exact ⟨0, by omega, hx⟩

end

/-! ## Operations of the block -/

theorem steps_touch (id : BankId) : Steps 0 (act (touch id)) := steps_modifySeq fun _ => ⟨rfl, rfl, rfl⟩

theorem steps_markStrobed : Steps 0 (act markStrobed) := steps_modifySeq fun _ => ⟨rfl, rfl, rfl⟩

theorem steps_readBank (id : BankId) : Steps 2 (readBank id) := by
  rw [readBank_eq]
  exact steps_andThen (steps_touch id) fun _ => steps_andThen (M := 1)
    (steps_depends (fun s => xferW id.chip (.iodir id.bank) (allIn s.params)) fun _ => steps_xferW _ _ _)
    fun _ => steps_xferR id

theorem steps_writeBank (id : BankId) (v m : Byte) : Steps 2 (writeBank id v m) := by
  rw [writeBank_eq]
  refine steps_depends _ fun s => steps_andThen (M := 2) (steps_touch id) fun _ => ?_
  split
  · exact steps_andThen (M := 1) (steps_xferW _ _ _) fun _ => steps_xferW _ _ _
  · exact steps_andThen (M := 1) (steps_xferW _ _ _) fun _ => steps_xferW _ _ _

theorem steps_driveBank (n : SignalName) (v : Byte) : Steps 2 (driveBank n v) :=
  steps_depends (fun s => writeBank (bankOf s.params n) v 0xFF#8) fun _ => steps_writeBank _ _ _

theorem steps_deassertStrobes (m : Byte) : Steps 2 (deassertStrobes m) :=
  steps_depends (fun s => writeBank (bankOf s.params .ctrl) (ctrlValue s.params 0#8) m) fun _ => steps_writeBank _ _ _

theorem steps_recordWrite (e : Option Event) : Steps 0 (recordWrite e) := by
  cases e with
  | none => exact steps_result ()
  | some e => exact steps_record e

theorem steps_assertStrobes (kind : CycleKind) (m : Byte) (e : Option Event) : Steps 2 (assertStrobes kind m e) := by
  have hrec := steps_recordWrite e
  rw [assertStrobes_eq]
  refine steps_depends _ fun s => steps_andThen (M := 2) steps_markStrobed fun _ => ?_
  split
  · exact steps_andThen (M := 0) (steps_writeBank _ _ _) fun _ => hrec
  · refine steps_andThen (M := 2) (steps_touch _) fun _ => steps_andThen (M := 1) (steps_xferW _ _ _) fun _ =>
      steps_depends _ fun n => law_ite (P := fun _ o => Steps 1 o) ?_ ?_
    · exact steps_andThen (N := 0) (M := 1) hrec fun _ => steps_xferW _ _ _
    · exact steps_andThen (N := 1) (M := 0) (steps_xferW _ _ _) fun _ => hrec

theorem steps_readDataBank (event : Byte → Event) : Steps 2 (readDataBank event) :=
  steps_depends
    (fun s => andThen (readBank (bankOf s.params .data)) fun v => andThen (act (record (event v))) fun _ => result v)
    fun _ => steps_andThen (M := 0) (steps_readBank _) fun v => steps_andThen (M := 0) (steps_record _) fun _ =>
      steps_result v

section
variable (p : Params) (a : Addr) (port v : Byte)

theorem steps_readMemForward : Steps 8 (readMemForward p a) :=
  steps_andThen (M := 6) (steps_driveBank _ _) fun _ => steps_andThen (M := 4) (steps_driveBank _ _) fun _ =>
    steps_andThen (M := 2) (steps_assertStrobes _ _ _) fun _ => steps_readDataBank _

theorem steps_writeMemForward : Steps 8 (writeMemForward p a v) :=
  steps_andThen (M := 6) (steps_driveBank _ _) fun _ => steps_andThen (M := 4) (steps_driveBank _ _) fun _ =>
    steps_andThen (M := 2) (steps_driveBank _ _) fun _ => steps_assertStrobes _ _ _

theorem steps_readIoForward : Steps 6 (readIoForward p port) :=
  steps_andThen (M := 4) (steps_driveBank _ _) fun _ => steps_andThen (M := 2) (steps_assertStrobes _ _ _) fun _ =>
    steps_readDataBank _

theorem steps_writeIoForward : Steps 6 (writeIoForward p port v) :=
  steps_andThen (M := 4) (steps_driveBank _ _) fun _ => steps_andThen (M := 2) (steps_driveBank _ _) fun _ =>
    steps_assertStrobes _ _ _

end

/-! ## A single failure -/

/-- The draw of transfer `k` is a failure, and every other one of the next `n` is answered. -/
def OneFails (n k : Nat) (s : State) : Prop :=
  (∃ v, (drawAt s k).xfer = .err v) ∧ ∀ j < n, j ≠ k → (drawAt s j).xfer = .ok

/-- The record reports the failure of port action `k`. -/
def Reported (k : Nat) (s : State) : Prop :=
  ∃ q c r, s.seq = some q ∧ q.firstErr = some (.transport c r k) ∧ q.warn = false

/-- A command at its beginning. -/
def Fresh (s : State) : Prop := ∃ q, s.seq = some q ∧ q.k = 0 ∧ q.warn = false ∧ q.firstErr = none

section
variable {α : Type} {p : Params} {N k : Nat} {s : State}

theorem Fresh.seq_ne_none (h : Fresh s) : s.seq ≠ none := by
  obtain ⟨q, hq, -⟩ := h
  rw [hq]; exact nofun

theorem OneFails.before {n : Nat} (h : OneFails n k s) (hk : k < n) : TransfersAnswered k s := fun j hj =>
  h.2 j (by omega) (by omega)

/-- An operation that the failure falls on. -/
theorem Steps.failsAt {o : Op α} (ho : Steps N o) {n : Nat} (h : OneFails n k s) (hk : k < N) (hn : N ≤ n)
    (hs : s.seq ≠ none) : ∃ e t c r, o s = (.failed e, t) ∧ Advances (k + 1) (failedAt k c r) s t := by
  obtain ⟨v, hv⟩ := h.1
  have hstep := ho s hs
  rcases hos : o s with ⟨a | e | _, t⟩ <;> simp only [hos] at hstep
  · have := hstep.1 k hk
    rw [hv] at this; cases this
  · obtain ⟨j, w, c, r, hj, hbefore, hx, hadv⟩ := hstep
    obtain rfl : j = k := by
      by_contra hne
      rw [h.2 j (by omega) hne] at hx; cases hx
    exact ⟨e, t, c, r, rfl, hadv⟩
  · obtain ⟨j, hj, hx⟩ := hstep
    by_cases hjk : j = k
    · subst hjk; rw [hv] at hx; cases hx
    · rw [h.2 j (by omega) hjk] at hx; cases hx

/-- An operation that the failure comes after. -/
theorem Steps.succeeds {o : Op α} (ho : Steps N o) (ha : TransfersAnswered N s) (hs : s.seq ≠ none) :
    ∃ a t, o s = (.ok a, t) ∧ Advances N Sequencer.firstErr s t := by
  have hstep := ho s hs
  rcases hos : o s with ⟨a | e | _, t⟩ <;> simp only [hos] at hstep
  · exact ⟨a, t, rfl, hstep.2⟩
  · obtain ⟨j, w, c, r, hj, -, hx, -⟩ := hstep
    rw [ha j hj] at hx; cases hx
  · obtain ⟨j, hj, hx⟩ := hstep
    rw [ha j hj] at hx; cases hx

theorem Advances.reported {n : Nat} {c : ChipId} {r : Byte} {t : State} (h : Advances n (failedAt k c r) s t)
    (hs : Fresh s) : Reported k t := by
  obtain ⟨q0, hq0, hk, hw, hf⟩ := hs
  obtain ⟨-, q, q', hq, ht, -, hw', hf'⟩ := h
  obtain rfl : q0 = q := Option.some.inj (hq0.symm.trans hq)
  exact ⟨q', c, r, ht, by rw [hf', failedAt, hf, hk, Nat.zero_add]; rfl, hw'.trans hw⟩

theorem Reported.did {acts : List Action} {f : Sequencer → Sequencer} {t : State} (h : Reported k s) (hd : Did acts f s t)
    (hf : KeepsReport f) : Reported k t := by
  obtain ⟨q, c, r, hq, he, hw⟩ := h
  exact ⟨f q, c, r, by rw [hd.seq, hq]; rfl, (hf q).2.trans he, (hf q).1.trans hw⟩

theorem length_inRestoreOrder_le (p : Params) (ids : List BankId) : (inRestoreOrder p ids).length ≤ 4 :=
  (List.length_filter_le ..).trans (by simp [restoreOrder])

/-- Restores that are answered bring every bank within their reach to rest. -/
theorem restores_answered {ids : List BankId} (h : TouchedState p ids s) (ha : TransfersAnswered 4 s) :
    ∃ t f, attemptAll ((inRestoreOrder p ids).map restoreBank) s = (.ok (), t) ∧
      Did (restoresActs p (inRestoreOrder p ids)) f s t ∧ KeepsReport f ∧ RestRegs p t.chips := by
  obtain ⟨hp, ⟨q, hq, -⟩, hc⟩ := h
  obtain ⟨_, t, _, f, e, hd, -, rfl, hf⟩ := answers_restores (inRestoreOrder p ids) s hp (by rw [hq]; exact nofun)
    fun i hi => ha i (hi.trans_le (length_inRestoreOrder_le p ids))
  exact ⟨t, f, e, hd, hf, by rw [hd.chips, hp]; exact hc.restored⟩

/-- A transaction's cleanup, answered. -/
theorem cleanup_answered (hb : BusBanks p) (m : Byte) {ids : List BankId} (h : TouchedState p ids s)
    (ha : TransfersAnswered 6 s) : ∃ t acts f, transactionCleanup m s = (.ok (), t) ∧ Did acts f s t ∧ KeepsReport f ∧
      RestRegs p t.chips := by
  unfold transactionCleanup
  rw [h.touchedInOrder]
  cases hs : strobedNow s with
  | false =>
    obtain ⟨t, f, e, hd, hf, hr⟩ := restores_answered h fun i hi => ha i (by omega)
    exact ⟨t, _, f, e, hd, hf, hr⟩
  | true =>
    obtain ⟨_, m1, _, f, e, hd, hn, rfl, hf⟩ := answers_deassertStrobes m s h.1
      (by obtain ⟨-, ⟨q, hq, -⟩, -⟩ := h; rw [hq]; exact nofun) fun i hi => ha i (by omega)
    have ht := keepsTouched_deassertStrobes hb m h hs
    rw [e] at ht
    obtain ⟨t, g, e', hd', hg, hr⟩ := restores_answered ht (hd.answered_of hn ha (by omega))
    exact ⟨t, _, _, by simp only [if_true, List.singleton_append, attemptAll_cons, withCleanup, e, e'], hd.trans hd',
      hf.trans hg, hr⟩

theorem TouchedState.seq_ne_none {ids : List BankId} (h : TouchedState p ids s) : s.seq ≠ none := by
  obtain ⟨-, ⟨q, hq, -⟩, -⟩ := h
  rw [hq]; exact nofun

/-- What one failure leaves: the operation fails with it, and every bank is at rest. -/
def FailsAtRest (p : Params) (k : Nat) (o : Op α) (s : State) : Prop :=
  ∃ e t, o s = (.failed e, t) ∧ Reported k t ∧ RestRegs p t.chips

/-- A failed de-assert leaves the restores. -/
theorem cleanup_failsAtRest (hb : BusBanks p) (m : Byte) {ids : List BankId} {e : Err} {t : State}
    (h : TouchedState p ids s) (hs : strobedNow s = true) (he : deassertStrobes m s = (.failed e, t))
    (hk : Reported k t) (ha : TransfersAnswered 4 t) : FailsAtRest p k (transactionCleanup m) s := by
  have ht := keepsTouched_deassertStrobes hb m h hs
  rw [he] at ht
  obtain ⟨t', g, e', hd', hg, hr⟩ := restores_answered ht ha
  refine ⟨e, t', ?_, hk.did hd' hg, hr⟩
  unfold transactionCleanup
  rw [h.touchedInOrder]
  simp only [hs, if_true, List.singleton_append, attemptAll_cons, withCleanup, he, e']

theorem Advances.answered {n m N : Nat} {e : Sequencer → Option Err} {t : State} (h : Advances n e s t)
    (ho : OneFails N k s) (hk : k < n) (hm : n + m ≤ N) : TransfersAnswered m t := fun i hi => by
  rw [h.1]
  exact ho.2 _ (by omega) (by omega)

theorem transaction_failsAtRest {o o' : Op α} (hb : BusBanks p) {m : Byte} (ho : o' s = transaction m o s) (hcover : Stays (KeepsCover p) o) (hsteps : Steps N o)
    (hstrobe : Answers p N N o fun _ _ f => ∃ ids, Marks ids true f) (hN : N ≤ 8) (hk : k < N + 2) (h : OneFails 14 k s)
    (hs : Fresh s) (hp : s.params = p) (hr : RestRegs p s.chips) : FailsAtRest p k o' s := by
  rw [FailsAtRest, ho]
  obtain ⟨q, hq, hq0, hqw, hqe⟩ := hs
  have hfresh : Fresh (freshTransaction s) :=
    ⟨{ q with touched := [], strobed := false }, by simp [hq], hq0, hqw, hqe⟩
  have h0 : OneFails 14 k (freshTransaction s) := h
  obtain ⟨ids, hids⟩ := hcover _ ⟨[], touchedState_fresh hp (by rw [hq]; exact nofun) hr⟩
  by_cases hkN : k < N
  · obtain ⟨e, m1, c, r, he, hadv⟩ := hsteps.failsAt h0 hkN (by omega) hfresh.seq_ne_none
    rw [he] at hids
    obtain ⟨t, acts, f, e', hd, hf, hrest⟩ := cleanup_answered hb m hids (hadv.answered h0 (by omega) (by omega))
    exact ⟨e, t, by simp only [transaction, withCleanup, he, e'], (hadv.reported hfresh).did hd hf, hrest⟩
  · have hanswered : TransfersAnswered N (freshTransaction s) := fun j hj => h0.2 j (by omega) (by omega)
    obtain ⟨a, m1, he, hadv⟩ := hsteps.succeeds hanswered hfresh.seq_ne_none
    obtain ⟨_, m1', _, f, he', hd, -, ids', hmarks⟩ :=
      hstrobe (freshTransaction s) hp hfresh.seq_ne_none hanswered
    obtain rfl : m1 = m1' := by rw [he] at he'; exact (Prod.ext_iff.1 he').2
    rw [he] at hids
    have hstrobed : strobedNow m1 = true := by
      refine strobedNow_of_marks hmarks (q := { q with touched := [], strobed := false }) rfl ?_
      rw [hd.seq, freshTransaction_seq, hq]; rfl
    have h1 : OneFails (14 - N) (k - N) m1 := by
      obtain ⟨v, hv⟩ := h0.1
      refine ⟨⟨v, by rw [hadv.1, Nat.add_sub_cancel' (by omega)]; exact hv⟩, fun j hj hne => ?_⟩
      rw [hadv.1]
      exact h0.2 _ (by omega) (by omega)
    obtain ⟨e, t, c, r, hde, hadv'⟩ := (steps_deassertStrobes m).failsAt h1 (by omega) (by omega) hadv.seq_ne_none
    have hwhole : Advances (N + (k - N + 1)) (failedAt k c r) (freshTransaction s) t :=
      hadv.trans hadv' fun q q' hk' hf' => by rw [failedAt, failedAt, hk', hf', Nat.add_assoc, Nat.add_sub_cancel' (by omega)]
    obtain ⟨e', t', hcl, hrep, hrest⟩ := cleanup_failsAtRest hb m hids hstrobed hde (hwhole.reported hfresh)
      (hadv'.answered h1 (by omega) (by omega))
    exact ⟨e', t', by simp only [transaction, withCleanup, he, hcl], hrep, hrest⟩

/-- A probe whose read fails restores what it touched. -/
theorem probe_failsAtRest {o o' : Op α} (ho : o' s = onError o probeCleanup (freshTransaction s)) (hcover : Stays (KeepsCover p) o) (hsteps : Steps N o) (hN : N ≤ 4) (hk : k < N)
    (h : OneFails 14 k s) (hs : Fresh s) (hp : s.params = p) (hr : RestRegs p s.chips) :
    FailsAtRest p k o' s := by
  rw [FailsAtRest, ho]
  obtain ⟨q, hq, hq0, hqw, hqe⟩ := hs
  have hfresh : Fresh (freshTransaction s) :=
    ⟨{ q with touched := [], strobed := false }, by simp [hq], hq0, hqw, hqe⟩
  obtain ⟨ids, hids⟩ := hcover _ ⟨[], touchedState_fresh hp (by rw [hq]; exact nofun) hr⟩
  obtain ⟨e, m1, c, r, he, hadv⟩ := hsteps.failsAt (s := freshTransaction s) h hk (by omega) hfresh.seq_ne_none
  rw [he] at hids
  obtain ⟨t, f, e', hd, hf, hrest⟩ := restores_answered hids (hadv.answered (N := 14) h (by omega) (by omega))
  have hclean : probeCleanup m1 = (.ok (), t) := by rw [probeCleanup, hids.touchedInOrder, e']
  exact ⟨e, t, by simp only [onError, he, hclean], (hadv.reported hfresh).did hd hf, hrest⟩

end

/-! ## Commands -/

theorem fresh_start (i : Instr) (s : State) : Fresh (setSeq (some (freshSeq i)) s) := ⟨freshSeq i, rfl, rfl, rfl, rfl⟩

section
variable {p : Params} {k : Nat} {s : State} (hp : s.params = p) (hs : Fresh s) (h : OneFails 14 k s)
  (hr : RestRegs p s.chips)
include hp hs h hr

theorem readRawAddrOp_failsAtRest (hb : BusBanks p) (hk : k < 4) : FailsAtRest p k readRawAddrOp s := by
  subst hp
  exact probe_failsAtRest (N := 4)
    (o := andThen (readBank (bankOf s.params .addrLo)) fun lo =>
      andThen (readBank (bankOf s.params .addrHi)) fun hi => result (addrOf hi lo)) rfl
    (keepsCover_opLaw.andThen (keepsCover_readBank hb (bankOf_mem_restoreOrder (by decide))) fun _ =>
      keepsCover_opLaw.andThen (keepsCover_readBank hb (bankOf_mem_restoreOrder (by decide))) fun _ =>
        keepsCover_opLaw.result _)
    (steps_andThen (M := 2) (steps_readBank _) fun _ => steps_andThen (M := 0) (steps_readBank _) fun _ => steps_result _)
    (by omega) hk h hs rfl hr

theorem readRawBankOp_failsAtRest (hb : BusBanks p) {n : SignalName} (hn : n ∈ [SignalName.ctrl, .data, .addrHi, .addrLo])
    (hk : k < 2) : FailsAtRest p k (readRawBankOp n) s := by
  subst hp
  exact probe_failsAtRest rfl (keepsCover_readBank hb (bankOf_mem_restoreOrder hn)) (steps_readBank _) (by omega) hk h hs rfl hr

variable (a : Addr) (port v : Byte)

theorem readMemoryOp_failsAtRest (hb : BusBanks p) (hk : k < 10) : FailsAtRest p k (readMemoryOp a) s := by
  subst hp
  exact transaction_failsAtRest hb rfl (keepsCover_readMemForward hb a) (steps_readMemForward s.params a)
    ((answers_readMemForward a).mono fun _ _ _ h => ⟨_, h.2⟩) (by omega) hk h hs rfl hr

theorem writeMemoryOp_failsAtRest (hb : BusBanks p) (hk : k < 10) : FailsAtRest p k (writeMemoryOp a v) s := by
  subst hp
  exact transaction_failsAtRest hb rfl (keepsCover_writeMemForward hb a v) (steps_writeMemForward s.params a v)
    ((answers_writeMemForward a v).mono fun _ _ _ h => ⟨_, h.2⟩) (by omega) hk h hs rfl hr

theorem readIoOp_failsAtRest (hb : BusBanks p) (hk : k < 8) : FailsAtRest p k (readIoOp port) s := by
  subst hp
  exact transaction_failsAtRest hb rfl (keepsCover_readIoForward hb port) (steps_readIoForward s.params port)
    ((answers_readIoForward port).mono fun _ _ _ h => ⟨_, h.2⟩) (by omega) hk h hs rfl hr

theorem writeIoOp_failsAtRest (hb : BusBanks p) (hk : k < 8) : FailsAtRest p k (writeIoOp port v) s := by
  subst hp
  exact transaction_failsAtRest hb rfl (keepsCover_writeIoForward hb port v) (steps_writeIoForward s.params port v)
    ((answers_writeIoForward port v).mono fun _ _ _ h => ⟨_, h.2⟩) (by omega) hk h hs rfl hr

end

/-- The failure of an operation is the failure of what is made of its result. -/
theorem FailsAtRest.andThen {α β : Type} {p : Params} {k : Nat} {o : Op α} {s : State} (h : FailsAtRest p k o s)
    (f : α → Op β) : FailsAtRest p k (andThen o f) s := by
  obtain ⟨e, t, ho, h⟩ := h
  exact ⟨e, t, by simp only [Machine.andThen, ho], h⟩

/-- A command whose body fails so answers with the error of that transfer. -/
theorem exec_failsAtRest {i : Instr} {s : State} {k : Nat} (hi : isCommand i = true) (hreg : registryOk s.params = true)
    (h : FailsAtRest s.params k (commandBody i) (setSeq (some (freshSeq i)) s)) :
    ∃ t c r, exec i s = .next t ∧ t.response = some (errReply false (.transport c r k)) ∧ RestRegs s.params t.chips := by
  obtain ⟨e, t, he, ⟨q, c, r, hq, hfirst, hw⟩, hr⟩ := h
  refine ⟨_, c, r, (exec_command hi s).trans (command_of_ok hreg), ?_, ?_⟩
  · rw [he]
    simp only [finish, respond, warnBit, reportedErr, hq, hw, hfirst]
    rfl
  · rw [he]
    exact hr

theorem FailsAtRest.precheck {α : Type} {p : Params} {k : Nat} {o : Op α} {s : State} {b : Bool} (h : FailsAtRest p k o s)
    (hc : s.configured = true) (ho : b = true → s.arb = .owned) : FailsAtRest p k (precheck b o) s := by
  rwa [FailsAtRest, precheck_passes hc ho]

/-- How many transfers a transaction or a probe makes before its restores. -/
def beforeRestores : Instr → Nat
  | .readMem _ => 10
  | .writeMem _ _ => 10
  | .readIo _ => 8
  | .writeIo _ _ => 8
  | .readRawAddr => 4
  | .readRawData => 2
  | .readRawCtrl => 2
  | _ => 0

/-- One failed transfer of a transaction or of a probe, before its restores. -/
theorem body_failsAtRest {i : Instr} {s : State} {k : Nat} (hreg : registryOk s.params = true) (hc : s.configured = true)
    (ho : isTransaction i = true → s.arb = .owned) (hr : RestRegs s.params s.chips) (hk : k < beforeRestores i)
    (h : OneFails 14 k s) : FailsAtRest s.params k (commandBody i) (setSeq (some (freshSeq i)) s) := by
  have hb := busBanks_of_registryOk hreg
  have hf := fresh_start i s
  cases i with
  | readMem a => exact ((readMemoryOp_failsAtRest rfl hf h hr a hb hk).andThen _).precheck hc fun _ => ho rfl
  | writeMem a v => exact ((writeMemoryOp_failsAtRest rfl hf h hr a v hb hk).andThen _).precheck hc fun _ => ho rfl
  | readIo port => exact ((readIoOp_failsAtRest rfl hf h hr port hb hk).andThen _).precheck hc fun _ => ho rfl
  | writeIo port v => exact ((writeIoOp_failsAtRest rfl hf h hr port v hb hk).andThen _).precheck hc fun _ => ho rfl
  | readRawAddr => exact ((readRawAddrOp_failsAtRest rfl hf h hr hb hk).andThen _).precheck hc nofun
  | readRawData => exact ((readRawBankOp_failsAtRest rfl hf h hr hb (by decide) hk).andThen _).precheck hc nofun
  | readRawCtrl => exact ((readRawBankOp_failsAtRest rfl hf h hr hb (by decide) hk).andThen _).precheck hc nofun
  | _ => exact absurd hk (Nat.not_lt_zero _)

theorem writes_nothing_of_beforeRestores {i : Instr} {k : Nat} (hk : k < beforeRestores i) :
    isCommand i = true ∧ mayWriteArb i = false ∧ ∀ l, mayWriteLine i l = false := by
  cases i
  case readMem | writeMem | readIo | writeIo | readRawAddr | readRawData | readRawCtrl => exact ⟨rfl, rfl, fun _ => rfl⟩
  all_goals exact absurd hk (Nat.not_lt_zero _)

/-! ## A poll of `GRAB` -/

/-- An action on the direction or latch of one of the touched banks, or on no register. -/
def Action.Within (p : Params) (ids : List BankId) : Action → Prop
  | .write c r _ => ∃ id ∈ inRestoreOrder p ids, c = id.chip ∧ IsDrive id r
  | .failWrite c r _ _ => ∃ id ∈ inRestoreOrder p ids, c = id.chip ∧ IsDrive id r
  | _ => True

theorem Covered.foldl {p : Params} {ids : List BankId} {acts : List Action} {e : Expanders} (hb : BusBanks p)
    (ha : ∀ a ∈ acts, a.Within p ids) (h : Covered p ids e) : Covered p ids (acts.foldl (Action.chips p) e) := by
  induction acts generalizing e with
  | nil => exact h
  | cons a acts ih =>
    refine ih (fun b hb => ha b (List.mem_cons_of_mem _ hb)) ?_
    have hw := ha a (List.mem_cons_self ..)
    cases a with
    | write c r v => obtain ⟨id, hid, rfl, hr⟩ := hw; exact h.writeReg hid hr v
    | failWrite c r v x =>
      obtain ⟨id, hid, rfl, hr⟩ := hw
      exact h.failReg hid hr x (mem_restoreOrder_present hb (mem_inRestoreOrder.1 hid).1)
    | _ => exact h

section
variable {p : Params} {ids : List BankId} {id : BankId}

theorem within_readBankActs (h : id ∈ inRestoreOrder p ids) (v : Byte) : ∀ a ∈ readBankActs p id v, a.Within p ids := by
  simp only [readBankActs, List.forall_mem_cons]
  exact ⟨⟨id, h, rfl, .inl rfl⟩, trivial, nofun⟩

theorem within_failedRead {as : List Action} (h : id ∈ inRestoreOrder p ids) (has : FailedRead p id as) :
    ∀ a ∈ as, a.Within p ids := by
  rcases has with ⟨x, rfl⟩ | rfl <;> simp only [List.forall_mem_cons]
  · exact ⟨⟨id, h, rfl, .inl rfl⟩, nofun⟩
  · exact ⟨⟨id, h, rfl, .inl rfl⟩, trivial, nofun⟩

theorem within_pollActs (h : bankOf p .ctrl ∈ inRestoreOrder p ids) (polls : List Byte) :
    ∀ a ∈ pollActs p polls, a.Within p ids := fun a ha => by
  obtain ⟨v, -, ha⟩ := List.mem_flatMap.1 ha
  exact within_readBankActs h v a ha

end

theorem inRestoreOrder_ctrl {p : Params} (hb : BusBanks p) : inRestoreOrder p [bankOf p .ctrl] = [bankOf p .ctrl] := by
  simp [inRestoreOrder, restoreOrder, hb.data_ctrl, hb.hi_ctrl, hb.lo_ctrl]

/-- One failure among the entries of a failed read and the restore after it: the restore was completed. -/
theorem tryActs_of_one_failure {p : Params} {id : BankId} {as before after : List Action} {x : XferDraw}
    (has : FailedRead p id as)
    (h : (((before ++ as ++ tryActs p id x ++ after).map (Action.event p)).filter isFailure).length = 1) :
    tryActs p id x = restoreActs p id := by
  cases x with
  | err v =>
    rcases has with ⟨y, rfl⟩ | rfl <;>
      simp [tryActs, isFailure, Action.event, failedTransfer, List.filter_cons] at h <;> omega
  | _ => rfl

theorem hung_of_exec {i : Instr} {s t : State} (hi : isCommand i = true) (h : exec i s = .next t) (ht : t.hung = false) :
    s.hung = false := by
  have hends := law_commandBody hi (ends_instrLaw i).commandLaw (setSeq (some (freshSeq i)) s)
  obtain ⟨m, ⟨a, hb, rfl⟩ | ⟨e, hb, rfl⟩⟩ := command_answered hi h ht
  · rw [hb] at hends
    exact (hends.notHung nofun).symm.trans ht
  · rw [hb] at hends
    exact (hends.notHung nofun).symm.trans ht

/-- A `GRAB` that begins with the bus owned reports no failed transfer. -/
theorem arb_of_grab_failed {s t : State} {w : Bool} {c : ChipId} {r : Byte} {k : Nat} (hc : s.configured = true)
    (h : exec .grab s = .next t) (hresp : t.response = some (errReply w (.transport c r k))) : s.arb = .released := by
  cases ha : s.arb with
  | released => rfl
  | owned =>
    have hreg := (command_next ((exec_command (i := .grab) rfl s).symm.trans h)).1
    have heq := (grabWhileOwned s hreg hc ha).symm.trans h
    cases heq
    have hstatus := replyStatus_transport w c r k
    rw [← Option.some.inj hresp] at hstatus
    exact absurd hstatus (by decide)

/-- The registers after a failed poll and its restore. -/
theorem grab_failed_rest {s t : State} {c : ChipId} {r : Byte} {k : Nat} (hc : s.configured = true)
    (hrest : RestRegs s.params s.chips) (h : exec .grab s = .next t) (ht : t.hung = false)
    (hresp : t.response = some (errReply false (.transport c r k)))
    (hone : ((newEvents s t).filter fun e => (failedTransfer e).isSome).length = 1) :
    RestRegs s.params t.chips ∧ t.arb = .released ∧ lineReleased t .busrq = true := by
  have hreg := (command_next ((exec_command (i := .grab) rfl s).symm.trans h)).1
  have hb := busBanks_of_registryOk hreg
  have hr := arb_of_grab_failed hc h hresp
  have hs := hung_of_exec (i := .grab) rfl h ht
  obtain ⟨polls, as, x, hpolls, has, harb, hperf⟩ := grab_failed hc hr hs h ht hresp
  refine ⟨?_, harb, (failedGrabLetsGo s t c r k false hc hr hs h ht hresp).2.1⟩
  have hin := inRestoreOrder_ctrl hb
  have hmem : bankOf s.params .ctrl ∈ inRestoreOrder s.params [bankOf s.params .ctrl] := by rw [hin]; simp
  have htry : tryActs s.params (bankOf s.params .ctrl) x = restoreActs s.params (bankOf s.params .ctrl) := by
    refine tryActs_of_one_failure (before := assertActs s.params .busrq ++ pollActs s.params polls)
      (after := releaseActs s.params .busrq) has ?_
    rw [← hperf.both]
    exact (congrArg List.length (filter_filter_isLogged isLogged_of_isFailure _)).trans hone
  have hcov : Covered s.params [bankOf s.params .ctrl]
      ((assertActs s.params .busrq ++ pollActs s.params polls ++ as).foldl (Action.chips s.params) s.chips) := by
    refine (hrest.covered _).foldl hb fun a ha => ?_
    rcases List.mem_append.1 ha with ha | ha
    · rcases List.mem_append.1 ha with ha | ha
      · simp only [assertActs, List.mem_cons, List.not_mem_nil, or_false] at ha
        rcases ha with rfl | rfl <;> trivial
      · exact within_pollActs hmem polls a ha
    · exact within_failedRead hmem has a ha
  have hdone := hcov.restored
  rw [hin] at hdone
  rw [hperf.chips, htry, chips_foldl_releaseActs, List.foldl_append]
  simpa [restoresActs] using hdone

/-- Settles O31: the failure ends the forward steps, the de-assert or the poll, and the restores reach every bank touched. -/
theorem oneFailureStillTriStates : Obligations.OneFailureStillTriStates := by
  have hrest {s t : State} {i : Instr} (he : exec i s = .next t) (h : RestRegs s.params t.chips) : atRest t = true :=
    atRest_iff.2 (exec_keeps keeps_params he ▸ h)
  refine ⟨fun i s k v hreg hc ho hr hk hx hok => ?_, fun s t c r k hc hr h ht hresp hone => ?_⟩
  · have hk' : k < beforeRestores i := by cases i <;> exact hk
    obtain ⟨hi, harb, hl⟩ := writes_nothing_of_beforeRestores hk'
    obtain ⟨t, c, r, he, hresp, hregs⟩ := exec_failsAtRest hi hreg
      (body_failsAtRest hreg hc ho (atRest_iff.1 hr) hk' ⟨⟨v, hx⟩, hok⟩)
    have hsame := sameBlock_of_exec he harb hl
    exact ⟨t, c, r, he, hresp, hrest he hregs, hsame.2, hsame⟩
  · obtain ⟨hregs, harb, hline⟩ := grab_failed_rest hc (atRest_iff.1 hr) h ht hresp hone
    exact ⟨hrest h hregs, harb, hline⟩

end Sys2Proof.Machine

/-! # The single-step snapshot (R283, R286, R287)

`singleStep` is followed with what it knows at each point: the snapshot that is pending, and the memory cycles in the history
since the command began. -/

namespace Sys2Proof.Machine

/-! ## Triples -/

section
variable {α β : Type} {P : State → Prop} {Q : α → State → Prop} {R : β → State → Prop} {E : State → Prop}

/-- From a state in `P` the operation succeeds with a result and a state in `Q`, or ends in a state in `E`. -/
def Triple (P : State → Prop) (o : Op α) (Q : α → State → Prop) (E : State → Prop) : Prop :=
  ∀ s, P s → match (o s).1 with
    | .ok a => Q a (o s).2
    | _ => E (o s).2

theorem triple_andThen {o : Op α} {f : α → Op β} (ho : Triple P o Q E) (hf : ∀ a, Triple (Q a) (f a) R E) :
    Triple P (andThen o f) R E := by
  intro s hs
  have h := ho s hs
  rcases hos : o s with ⟨a | e | _, m⟩ <;> simp only [andThen, hos] at h ⊢
  · exact hf a m h
  · exact h
  · exact h

theorem triple_onError {o : Op α} {c : Op Unit} (ho : Triple P o Q E) (hc : ∀ s, E s → E (c s).2) :
    Triple P (onError o c) Q E := by
  intro s hs
  have h := ho s hs
  rcases hos : o s with ⟨a | e | _, m⟩ <;> simp only [onError, hos] at h ⊢
  · exact h
  · have h' := hc m h
    rcases hcm : c m with ⟨_ | _ | _, t⟩ <;> rw [hcm] at h' <;> exact h'
  · exact h

theorem triple_mono {o : Op α} {P' : State → Prop} {Q' : α → State → Prop} {E' : State → Prop} (h : Triple P o Q E)
    (hP : ∀ s, P' s → P s) (hQ : ∀ a s, Q a s → Q' a s) (hE : ∀ s, E s → E' s) : Triple P' o Q' E' := by
  intro s hs
  have h := h s (hP s hs)
  rcases hos : o s with ⟨a | e | _, m⟩ <;> rw [hos] at h
  · exact hQ a m h
  · exact hE m h
  · exact hE m h

theorem triple_congr {o o' : Op α} (he : ∀ s, P s → o s = o' s) (h : Triple P o' Q E) : Triple P o Q E := by
  intro s hs
  rw [he s hs]
  exact h s hs

theorem triple_exists {ι : Type} {o : Op α} {P : ι → State → Prop} (h : ∀ i, Triple (P i) o Q E) :
    Triple (fun s => ∃ i, P i s) o Q E := fun s ⟨i, hs⟩ => h i s hs

theorem triple_of_stays {o : Op α} {S : State → State → Prop} (h : Stays S o) (hP : ∀ s t, S s t → P s → P t)
    (hE : ∀ s, P s → E s) : Triple P o (fun _ => P) E := by
  intro s hs
  have ht := hP _ _ (h s) hs
  rcases hos : o s with ⟨a | e | _, m⟩ <;> rw [hos] at ht
  · exact ht
  · exact hE m ht
  · exact hE m ht

theorem triple_result (a : α) (h : ∀ s, P s → Q a s) : Triple P (result a) Q E := fun s hs => h s hs

end

/-! ## Memory cycles and the snapshot -/

/-- The bus cycles in the history. -/
def cyclesOf (s : State) : List Event := s.history.filter isBusCycle

/-- The snapshot is as before, and the history has the bus cycles `es` more. -/
structure Emits (es : List Event) (s t : State) : Prop where
  pending : t.pending = s.pending
  cycles : cyclesOf t = cyclesOf s ++ es

theorem Emits.trans {es es' : List Event} {s t u : State} (h : Emits es s t) (k : Emits es' t u) :
    Emits (es ++ es') s u :=
  ⟨k.pending.trans h.pending, by rw [k.cycles, h.cycles, List.append_assoc]⟩

theorem stays_act {R : State → State → Prop} {f : State → State} (h : ∀ s, R s (f s)) : Stays R (act f) := h

theorem emits_rel : Rel (Emits []) where
  refl s := ⟨rfl, by simp⟩
  trans h k := h.trans k

theorem emits_modifySeq (f : Sequencer → Sequencer) (s : State) : Emits [] s (modifySeq f s) := ⟨rfl, by simp [cyclesOf]⟩

theorem emits_portAction {d : Draw} {f : State → State} {e : State → Event} (hf : ActRecords e f)
    (he : ∀ m, isBusCycle (e m) = false) (s : State) : Emits [] s (portAction d f (dropDraw s)) := by
  obtain ⟨m, hm⟩ := portAction_history d f (dropDraw s)
  refine ⟨by simp [hf.pending], ?_⟩
  rw [cyclesOf, hm, hf.history]
  simp [cyclesOf, he]

theorem emits_xferW (c : ChipId) (r : Reg) (v : Byte) : Stays (Emits []) (xferW c r v) := by
  intro s
  rcases xferW_cases c r v s with ⟨-, h⟩ | ⟨x, -, h⟩ | ⟨-, h⟩ <;> rw [h] <;> dsimp only
  · exact emits_portAction (actRecords_write _ _) (fun _ => rfl) s
  · exact emits_rel.trans (emits_portAction (actRecords_write _ _) (fun _ => rfl) s) (emits_modifySeq _ _)
  · exact ⟨by simp, by simp [cyclesOf]⟩

theorem emits_xferR (id : BankId) : Stays (Emits []) (xferR id) := by
  intro s
  rcases xferR_cases id s with ⟨-, h⟩ | ⟨x, -, h⟩ | ⟨-, h⟩ <;> rw [h] <;> dsimp only
  · exact emits_portAction (actRecords_read _) (fun _ => rfl) s
  · exact emits_rel.trans (emits_portAction (actRecords_read _) (fun _ => rfl) s) (emits_modifySeq _ _)
  · exact ⟨by simp, by simp [cyclesOf]⟩

theorem emits_writeLaw : WriteLaw fun _ o => Stays (Emits []) o where
  toOpLaw := stays_opLaw emits_rel
  touch _ := emits_modifySeq _
  freshTransaction := emits_modifySeq _
  writeAllIn _ s := emits_xferW _ _ _ s
  read := emits_xferR
  writeDir c k v := emits_xferW c (.iodir k) v
  writeLatch c k v := emits_xferW c (.olat k) v

theorem emits_pinLaw (l : Line) : PinLaw (fun _ o => Stays (Emits []) o) l where
  toOpLaw := stays_opLaw emits_rel
  level _ := stays_act fun s => emits_portAction (actRecords_pin l _ _) (fun _ => rfl) s
  dir _ := stays_act fun s => emits_portAction (actRecords_pin l _ _) (fun _ => rfl) s
  pullUp _ := stays_act fun s => emits_portAction (actRecords_pin l _ _) (fun _ => rfl) s

theorem emits_setArb (a : Arb) : Stays (Emits []) (act (setArb a)) := fun _ => ⟨rfl, by simp [cyclesOf]; rfl⟩

theorem emits_releaseOp : Stays (Emits []) releaseOp :=
  law_releaseOp emits_writeLaw.toReadLaw (emits_pinLaw _) (emits_setArb _)

theorem emits_grabOp : Stays (Emits []) grabOp :=
  law_grabOp emits_writeLaw.toReadLaw (emits_pinLaw _) (emits_modifySeq _) (stays_act fun _ => ⟨rfl, by simp [cyclesOf, isBusCycle]⟩)
    (emits_setArb _) (emits_modifySeq _)

theorem emits_runAndSample : Stays (Emits []) runAndSample :=
  law_runAndSample emits_writeLaw.toReadLaw (emits_pinLaw _) (emits_pinLaw _)

/-! ## Transactions log their cycle -/

/-- The operation logs the cycle `ev` of its result once it succeeds, and such a cycle or none if it does not. -/
def Logs {α : Type} (o : Op α) (ev : α → Event) : Prop := ∀ s,
  match (o s).1 with
  | .ok a => Emits [ev a] s (o s).2
  | _ => Emits [] s (o s).2 ∨ ∃ a, Emits [ev a] s (o s).2

section
variable {α β : Type}

theorem logs_after {o : Op β} {f : β → Op α} {ev : α → Event} (ho : Stays (Emits []) o) (hf : ∀ b, Logs (f b) ev) :
    Logs (andThen o f) ev := by
  intro s
  have h := ho s
  rcases hos : o s with ⟨b | e | _, m⟩ <;> rw [hos] at h <;> simp only [andThen, hos]
  · have h' := hf b m
    rcases hfm : f b m with ⟨a | e | _, t⟩ <;> rw [hfm] at h'
    · exact h.trans h'
    · exact h'.imp h.trans fun ⟨a, ha⟩ => ⟨a, h.trans ha⟩
    · exact h'.imp h.trans fun ⟨a, ha⟩ => ⟨a, h.trans ha⟩
  · exact .inl h
  · exact .inl h

/-- A quiet operation after the cycle. -/
theorem logs_before {o o' : Op Unit} {e : Event} (ho : Logs o fun _ => e) (ho' : Stays (Emits []) o') :
    Logs (andThen o fun _ => o') fun _ => e := by
  intro s
  have h := ho s
  rcases hos : o s with ⟨_ | x | _, m⟩ <;> rw [hos] at h <;> simp only [andThen, hos]
  · have ht := h.trans (ho' m)
    rcases hom : o' m with ⟨_ | x | _, t⟩ <;> rw [hom] at ht
    · exact ht
    · exact .inr ⟨(), ht⟩
    · exact .inr ⟨(), ht⟩
  · exact h
  · exact h

theorem logs_withCleanup {o : Op α} {c : Op Unit} {ev : α → Event} (ho : Logs o ev) (hc : Stays (Emits []) c) :
    Logs (withCleanup o c) ev := by
  intro s
  have h := ho s
  rcases hos : o s with ⟨a | x | _, m⟩ <;> rw [hos] at h <;> simp only [withCleanup, hos]
  · have ht := h.trans (hc m)
    rcases hcm : c m with ⟨_ | x | _, t⟩ <;> rw [hcm] at ht
    · exact ht
    · exact .inr ⟨a, ht⟩
    · exact .inr ⟨a, ht⟩
  · have ht : Emits [] s (c m).2 ∨ ∃ a, Emits [ev a] s (c m).2 :=
      h.imp (fun h => h.trans (hc m)) fun ⟨a, ha⟩ => ⟨a, ha.trans (hc m)⟩
    rcases hcm : c m with ⟨_ | x | _, t⟩ <;> rw [hcm] at ht <;> exact ht
  · exact h

theorem logs_transaction {o : Op α} {ev : α → Event} (m : Byte) (ho : Logs o ev) : Logs (transaction m o) ev :=
  logs_after (f := fun _ => withCleanup o (transactionCleanup m)) emits_writeLaw.freshTransaction fun _ =>
    logs_withCleanup ho (law_transactionCleanup emits_writeLaw m)

theorem logs_record {e : Event} (he : isBusCycle e = true) : Logs (act (record e)) fun _ => e := fun s => ⟨rfl, by
  change (record e s).history.filter isBusCycle = _
  simp [cyclesOf, he]⟩

theorem logs_ite {c : Prop} [Decidable c] {o o' : Op α} {ev : α → Event} (ho : Logs o ev) (ho' : Logs o' ev) :
    Logs (if c then o else o') ev := by
  split
  · exact ho
  · exact ho'

theorem logs_depends {f : State → Op α} {ev : α → Event} (h : ∀ m, Logs (f m) ev) : Logs (fun s => f s s) ev :=
  fun s => h s s

end

theorem emits_markStrobed : Stays (Emits []) (act markStrobed) := emits_modifySeq _

theorem emits_assertStrobes (kind : CycleKind) (m : Byte) : Stays (Emits []) (assertStrobes kind m none) :=
  law_assertStrobes emits_writeLaw kind m emits_markStrobed (emits_writeLaw.result ())

theorem logs_assertStrobes (kind : CycleKind) (m : Byte) {e : Event} (he : isBusCycle e = true) :
    Logs (assertStrobes kind m (some e)) fun _ => e := by
  have hrec : Logs (recordWrite (some e)) fun _ => e := logs_record he
  rw [assertStrobes_eq]
  refine logs_depends fun n => logs_after emits_markStrobed fun _ => ?_
  split
  · exact logs_after (law_writeBank emits_writeLaw _ _ _) fun _ => hrec
  · refine logs_after (emits_writeLaw.touch _) fun _ => logs_after (emits_writeLaw.writeDir _ _ _) fun _ =>
      logs_depends fun k => logs_ite ?_ ?_
    · exact logs_before hrec (emits_writeLaw.writeLatch _ _ _)
    · exact logs_after (emits_writeLaw.writeLatch _ _ _) fun _ => hrec

theorem logs_readDataBank {event : Byte → Event} (he : ∀ v, isBusCycle (event v) = true) :
    Logs (readDataBank event) event :=
  logs_depends
    (f := fun m => andThen (readBank (bankOf m.params .data)) fun v => andThen (act (record (event v))) fun _ => result v)
    fun m => logs_after (law_readBank emits_writeLaw.toReadLaw _) fun v s => ⟨rfl, by
      change (record (event v) s).history.filter isBusCycle = _
      simp [cyclesOf, he]⟩

theorem logs_readMemoryOp (a : Addr) : Logs (readMemoryOp a) (Event.memRead a) := by
  rw [readMemoryOp_eq]
  exact logs_depends (f := fun s => transaction (memRdMask s.params) (readMemForward s.params a)) fun s =>
    logs_transaction _ <| logs_after (law_driveBank emits_writeLaw _ _) fun _ =>
      logs_after (law_driveBank emits_writeLaw _ _) fun _ => logs_after (emits_assertStrobes _ _) fun _ =>
        logs_readDataBank fun _ => rfl

theorem logs_writeMemoryOp (a : Addr) (v : Byte) : Logs (writeMemoryOp a v) fun _ => Event.memWrite a v := by
  rw [writeMemoryOp_eq]
  exact logs_depends (f := fun s => transaction (memWrMask s.params) (writeMemForward s.params a v)) fun s =>
    logs_transaction _ <| logs_after (law_driveBank emits_writeLaw _ _) fun _ =>
      logs_after (law_driveBank emits_writeLaw _ _) fun _ => logs_after (law_driveBank emits_writeLaw _ _) fun _ =>
        logs_assertStrobes _ _ rfl

/-! ## The phases of `singleStep` -/

/-- Phases 2 and 3 of `singleStep` (R283, R284), with their release on an error (R287). -/
def snapshotAndJump (target : Addr) : Op Unit :=
  onError (andThen (takeSnapshot target) fun _ => writeBytes (jumpBytes target)) releaseOp

/-- `singleStep` from its first release on (R284 to R289). -/
def runAndRestore : Op (Addr × Byte) :=
  andThen releaseOp fun _ => andThen runAndSample fun sample => andThen grabOp fun _ =>
    andThen (onError restoreBytes releaseOp) fun _ => andThen releaseOp fun _ => result sample

theorem singleStepOp_eq (target : Addr) :
    singleStepOp target = andThen grabOp fun _ => andThen (snapshotAndJump target) fun _ => runAndRestore := rfl

/-- The snapshot `x` is pending, and the history has the cycles `c` and then `es`. -/
def At (c : List Event) (x : Option Snapshot) (es : List Event) (s : State) : Prop :=
  s.pending = x ∧ cyclesOf s = c ++ es

/-- The snapshot `x` is pending, and the history has the cycles `c`, then `es` and perhaps more. -/
def Ahead (c : List Event) (x : Option Snapshot) (es : List Event) (s : State) : Prop := ∃ more, At c x (es ++ more) s

section
variable {α : Type} {c es : List Event} {x : Option Snapshot} {s t : State}

theorem At.emits {new : List Event} (h : At c x es s) (k : Emits new s t) : At c x (es ++ new) t :=
  ⟨k.pending.trans h.1, by rw [k.cycles, h.2, List.append_assoc]⟩

theorem At.quiet (h : At c x es s) (k : Emits [] s t) : At c x es t := by simpa using h.emits k

theorem At.ahead (h : At c x es s) : Ahead c x es s := ⟨[], by simpa using h⟩

theorem Ahead.emits {new : List Event} (h : Ahead c x es s) (k : Emits new s t) : Ahead c x es t := by
  obtain ⟨more, hm⟩ := h
  exact ⟨more ++ new, by simpa using hm.emits k⟩

theorem Ahead.of_append {es' : List Event} (h : Ahead c x (es ++ es') s) : Ahead c x es s := by
  obtain ⟨more, hm⟩ := h
  exact ⟨es' ++ more, by simpa using hm⟩

theorem triple_quiet {o : Op α} (h : Stays (Emits []) o) : Triple (At c x es) o (fun _ => At c x es) (At c x es) :=
  triple_of_stays h (fun _ _ k hs => hs.quiet k) fun _ h => h

/-- A memory transaction from a known point. -/
theorem triple_logs {o : Op α} {ev : α → Event} (h : Logs o ev) :
    Triple (At c x es) o (fun a => At c x (es ++ [ev a])) (fun s => At c x es s ∨ ∃ a, At c x (es ++ [ev a]) s) := by
  intro s hs
  have h := h s
  rcases hos : o s with ⟨a | e | _, t⟩ <;> rw [hos] at h
  · exact hs.emits h
  · exact h.imp hs.quiet fun ⟨a, ha⟩ => ⟨a, hs.emits ha⟩
  · exact h.imp hs.quiet fun ⟨a, ha⟩ => ⟨a, hs.emits ha⟩

/-- The memory writes of several bytes. -/
def writeCycles (bytes : List (Addr × Byte)) : List Event := bytes.map fun b => .memWrite b.1 b.2

theorem triple_writeBytes (bytes : List (Addr × Byte)) :
    Triple (At c x es) (writeBytes bytes) (fun _ => At c x (es ++ writeCycles bytes)) (Ahead c x es) := by
  induction bytes generalizing es with
  | nil => exact triple_result () fun s hs => by simpa [writeCycles] using hs
  | cons b bytes ih =>
    have hwrite : Triple (At c x es) (writeMemoryOp b.1 b.2) (fun _ => At c x (es ++ [.memWrite b.1 b.2])) (Ahead c x es) :=
      triple_mono (triple_logs (logs_writeMemoryOp b.1 b.2)) (fun _ h => h) (fun _ _ h => h) fun s hs =>
        hs.elim At.ahead fun ⟨_, h⟩ => ⟨_, h⟩
    refine triple_andThen hwrite fun _ => triple_mono ih (fun _ h => h) (fun _ _ h => ?_) fun _ h => h.of_append
    simpa [writeCycles] using h

theorem triple_setPending (y : Option Snapshot) {E : State → Prop} :
    Triple (At c x es) (act (setPending y)) (fun _ => At c y es) E := fun _ h => ⟨rfl, h.2⟩

/-- The saved bytes go back, and the snapshot is dropped once they have. -/
theorem triple_restoreBytes (snap : Snapshot) : Triple (At c (some snap) es) restoreBytes
    (fun _ => At c none (es ++ writeCycles (savedBytes snap))) (Ahead c (some snap) es) := by
  refine triple_congr (o' := andThen (writeBytes (savedBytes snap)) fun _ => act (setPending none))
    (fun s hs => by rw [restoreBytes, hs.1]) ?_
  exact triple_andThen (triple_writeBytes (savedBytes snap)) fun _ => triple_setPending none

/-- From the first release on the snapshot is kept, or the bytes are back. -/
theorem triple_runAndRestore (snap : Snapshot) : Triple (At c (some snap) es) runAndRestore
    (fun _ => At c none (es ++ writeCycles (savedBytes snap)))
    (fun s => Ahead c (some snap) es s ∨ At c none (es ++ writeCycles (savedBytes snap)) s) := by
  have quiet {β : Type} {o : Op β} (h : Stays (Emits []) o) : Triple (At c (some snap) es) o (fun _ => At c (some snap) es)
      (fun s => Ahead c (some snap) es s ∨ At c none (es ++ writeCycles (savedBytes snap)) s) :=
    triple_mono (triple_quiet h) (fun _ h => h) (fun _ _ h => h) fun _ h => .inl h.ahead
  have restored : Triple (At c (some snap) es) (onError restoreBytes releaseOp)
      (fun _ => At c none (es ++ writeCycles (savedBytes snap)))
      (fun s => Ahead c (some snap) es s ∨ At c none (es ++ writeCycles (savedBytes snap)) s) :=
    triple_onError (triple_mono (triple_restoreBytes snap) (fun _ h => h) (fun _ _ h => h) fun _ h => .inl h)
      fun s h => h.imp (fun h => h.emits (emits_releaseOp s)) fun h => h.quiet (emits_releaseOp s)
  have released : Triple (At c none (es ++ writeCycles (savedBytes snap))) releaseOp
      (fun _ => At c none (es ++ writeCycles (savedBytes snap)))
      (fun s => Ahead c (some snap) es s ∨ At c none (es ++ writeCycles (savedBytes snap)) s) :=
    triple_mono (triple_quiet emits_releaseOp) (fun _ h => h) (fun _ _ h => h) fun _ h => .inr h
  exact triple_andThen (quiet emits_releaseOp) fun _ => triple_andThen (quiet emits_runAndSample) fun sample =>
    triple_andThen (quiet emits_grabOp) fun _ => triple_andThen restored fun _ => triple_andThen released fun _ =>
      triple_result sample fun _ h => h

/-- The three reads of the snapshot. -/
def readCycles (b0 b1 b2 : Byte) : List Event := [.memRead 0#16 b0, .memRead 1#16 b1, .memRead 2#16 b2]

/-- No memory write so far, and no snapshot. -/
def OnlyReads (c : List Event) (s : State) : Prop := ∃ es, At c none es s ∧ ∀ a v, Event.memWrite a v ∉ es

/-- A retried `singleStep` keeps the saved bytes of the pending snapshot (R288). -/
theorem triple_takeSnapshot_pending (snap : Snapshot) (target : Addr) {E : State → Prop} :
    Triple (At c (some snap) es) (takeSnapshot target) (fun _ => At c (some { snap with jumpTarget := target }) es) E := by
  refine triple_congr (o' := act (setPending (some { snap with jumpTarget := target })))
    (fun s hs => by rw [takeSnapshot, hs.1]; rfl) ?_
  exact triple_setPending _

/-- A first `singleStep` reads the three bytes before it holds them. -/
theorem triple_takeSnapshot_first (target : Addr) : Triple (At c none []) (takeSnapshot target)
    (fun _ s => ∃ b0 b1 b2, At c (some ⟨b0, b1, b2, target⟩) (readCycles b0 b1 b2) s) (OnlyReads c) := by
  have read (a : Addr) {es : List Event} (hes : ∀ a v, Event.memWrite a v ∉ es) :
      Triple (At c none es) (readMemoryOp a) (fun b => At c none (es ++ [.memRead a b])) (OnlyReads c) :=
    triple_mono (triple_logs (logs_readMemoryOp a)) (fun _ h => h) (fun _ _ h => h) fun s hs =>
      hs.elim (fun h => ⟨_, h, hes⟩) fun ⟨b, h⟩ => ⟨_, h, by simpa using hes⟩
  refine triple_congr (o' := andThen (readMemoryOp 0#16) fun b0 => andThen (readMemoryOp 1#16) fun b1 =>
    andThen (readMemoryOp 2#16) fun b2 => act (setPending (some ⟨b0, b1, b2, target⟩)))
    (fun s hs => by rw [takeSnapshot, hs.1]) ?_
  exact triple_andThen (read 0#16 (by simp)) fun b0 => triple_andThen (read 1#16 (by simp)) fun b1 =>
    triple_andThen (read 2#16 (by simp)) fun b2 => triple_mono (triple_setPending (some ⟨b0, b1, b2, target⟩))
      (fun _ h => h) (fun _ _ h => ⟨b0, b1, b2, h⟩) fun _ h => h

theorem triple_snapshotAndJump_pending (snap : Snapshot) (target : Addr) :
    Triple (At c (some snap) []) (snapshotAndJump target)
      (fun _ => At c (some { snap with jumpTarget := target }) (writeCycles (jumpBytes target)))
      (Ahead c (some { snap with jumpTarget := target }) []) :=
  triple_onError (triple_andThen (triple_takeSnapshot_pending snap target) fun _ => triple_writeBytes (jumpBytes target))
    fun s h => h.emits (emits_releaseOp s)

/-- The jump is written once the three bytes are held (R283, R284). -/
theorem triple_snapshotAndJump {P E : State → Prop} {target : Addr}
    (hsnap : Triple P (takeSnapshot target)
      (fun _ s => ∃ b0 b1 b2, At c (some ⟨b0, b1, b2, target⟩) (readCycles b0 b1 b2) s) E)
    (hE : ∀ s, E s → E (releaseOp s).2) : Triple P (snapshotAndJump target)
    (fun _ s => ∃ b0 b1 b2, At c (some ⟨b0, b1, b2, target⟩) (readCycles b0 b1 b2 ++ writeCycles (jumpBytes target)) s)
    (fun s => E s ∨ ∃ b0 b1 b2, Ahead c (some ⟨b0, b1, b2, target⟩) (readCycles b0 b1 b2) s) := by
  have hwrites (_ : Unit) : Triple (fun s => ∃ b0 b1 b2, At c (some ⟨b0, b1, b2, target⟩) (readCycles b0 b1 b2) s)
      (writeBytes (jumpBytes target))
      (fun _ s => ∃ b0 b1 b2, At c (some ⟨b0, b1, b2, target⟩) (readCycles b0 b1 b2 ++ writeCycles (jumpBytes target)) s)
      (fun s => E s ∨ ∃ b0 b1 b2, Ahead c (some ⟨b0, b1, b2, target⟩) (readCycles b0 b1 b2) s) :=
    triple_exists fun b0 => triple_exists fun b1 => triple_exists fun b2 =>
      triple_mono (triple_writeBytes (jumpBytes target)) (fun _ h => h) (fun _ _ h => ⟨b0, b1, b2, h⟩)
        fun _ h => .inr ⟨b0, b1, b2, h⟩
  refine triple_onError (triple_andThen (triple_mono hsnap (fun _ h => h) (fun _ _ h => h) fun _ h => .inl h) hwrites)
    fun s h => ?_
  exact h.imp (hE s) fun ⟨b0, b1, b2, h⟩ => ⟨b0, b1, b2, h.emits (emits_releaseOp s)⟩

/-- What a first `singleStep` comes to once the three bytes are held. -/
def KeptOrBack (c : List Event) (target : Addr) (s : State) : Prop :=
  ∃ b0 b1 b2, Ahead c (some ⟨b0, b1, b2, target⟩) (readCycles b0 b1 b2) s ∨
    At c none (readCycles b0 b1 b2 ++ jumpAndRestoreCycles target b0 b1 b2) s

/-- The whole of a first `singleStep` after its grab. -/
theorem triple_afterGrab {P E : State → Prop} {target : Addr}
    (hsnap : Triple P (takeSnapshot target)
      (fun _ s => ∃ b0 b1 b2, At c (some ⟨b0, b1, b2, target⟩) (readCycles b0 b1 b2) s) E)
    (hE : ∀ s, E s → E (releaseOp s).2) :
    Triple P (andThen (snapshotAndJump target) fun _ => runAndRestore)
      (fun _ => KeptOrBack c target) (fun s => E s ∨ KeptOrBack c target s) := by
  have hcycles (b0 b1 b2 : Byte) : readCycles b0 b1 b2 ++ writeCycles (jumpBytes target) ++
      writeCycles (savedBytes ⟨b0, b1, b2, target⟩) = readCycles b0 b1 b2 ++ jumpAndRestoreCycles target b0 b1 b2 := rfl
  refine triple_andThen (triple_mono (triple_snapshotAndJump hsnap hE) (fun _ h => h) (fun _ _ h => h) fun s h => ?_)
    fun _ => triple_exists fun b0 => triple_exists fun b1 => triple_exists fun b2 =>
      triple_mono (triple_runAndRestore ⟨b0, b1, b2, target⟩) (fun _ h => h) (fun _ s h => ?_) fun s h => ?_
  · exact h.imp_right fun ⟨b0, b1, b2, h⟩ => ⟨b0, b1, b2, .inl h⟩
  · rw [hcycles] at h
    exact ⟨b0, b1, b2, .inr h⟩
  · rw [hcycles] at h
    exact .inr ⟨b0, b1, b2, h.imp_left Ahead.of_append⟩

/-- The whole of a retried `singleStep` after its grab. -/
theorem triple_afterGrab_pending (snap : Snapshot) (target : Addr) :
    Triple (At c (some snap) []) (andThen (snapshotAndJump target) fun _ => runAndRestore)
      (fun _ => At c none (writeCycles (jumpBytes target) ++ writeCycles (savedBytes snap)))
      (fun s => Ahead c (some { snap with jumpTarget := target }) [] s ∨
        At c none (writeCycles (jumpBytes target) ++ writeCycles (savedBytes snap)) s) :=
  triple_andThen (triple_mono (triple_snapshotAndJump_pending snap target) (fun _ h => h) (fun _ _ h => h)
    fun _ h => .inl h) fun _ => triple_mono (triple_runAndRestore { snap with jumpTarget := target }) (fun _ h => h)
      (fun _ _ h => h) fun _ h => h.imp_left (Ahead.of_append (es := []))

end

/-! ## The command -/

/-- The end of a command leaves all but its own bookkeeping. -/
theorem finish_cases (r : Res (BitVec 16 × Byte)) (m : State) : finish r m = m ∨ ∃ w, finish r m = respond w m := by
  rcases r with a | e | _
  · exact .inr ⟨_, rfl⟩
  · exact .inr ⟨_, rfl⟩
  · exact .inl rfl

theorem busCycles_of_at {s m : State} {x : Option Snapshot} {es : List Event} {r : Res (BitVec 16 × Byte)}
    (hg : HistoryGrows s (finish r m)) (h : At (cyclesOf s) x es m) :
    (finish r m).pending = x ∧ busCycles s (finish r m) = es := by
  have hfin : (finish r m).pending = m.pending ∧ cyclesOf (finish r m) = cyclesOf m := by
    rcases finish_cases r m with e | ⟨w, e⟩ <;> rw [e]
    · exact ⟨rfl, rfl⟩
    · exact ⟨rfl, by simp [cyclesOf, respond, isBusCycle]⟩
  exact ⟨hfin.1.trans h.1, filter_newEvents (p := isBusCycle) hg (hfin.2.trans h.2)⟩

/-- A triple of the body of `singleStep`, at its command. -/
theorem exec_singleStep {s t : State} {target : Addr} {Q E : State → Prop} (h : exec (.singleStep target) s = .next t)
    (hc : s.configured = true)
    (ht : Triple (fun m => At (cyclesOf s) s.pending [] m) (singleStepOp target) (fun _ => Q) E) :
    ∃ r m, t = finish r m ∧ HistoryGrows s (finish r m) ∧ (Q m ∨ E m) := by
  obtain ⟨-, he⟩ := command_next ((exec_command (i := .singleStep target) rfl s).symm.trans h)
  have hbody : commandBody (.singleStep target) (setSeq (some (freshSeq (.singleStep target))) s) =
      singleStepOp target (setSeq (some (freshSeq (.singleStep target))) s) := precheck_passes hc nofun
  have hpre := ht (setSeq (some (freshSeq (.singleStep target))) s) ⟨rfl, by simp [cyclesOf]⟩
  rw [hbody] at he
  refine ⟨_, _, he, he ▸ exec_stays historyGrows_commandFrame h, ?_⟩
  rcases hm : singleStepOp target (setSeq (some (freshSeq (.singleStep target))) s) with ⟨a | e | _, m⟩ <;> rw [hm] at hpre
  · exact .inl hpre
  · exact .inr hpre
  · exact .inr hpre

/-- Without `CONFIGURE` a `singleStep` does nothing but answer. -/
theorem exec_singleStep_unconfigured {s t : State} {target : Addr} (h : exec (.singleStep target) s = .next t)
    (hc : s.configured = false) : t.pending = s.pending ∧ busCycles s t = [] := by
  have hreg := (command_next ((exec_command (i := .singleStep target) rfl s).symm.trans h)).1
  have hn := (notConfiguredBeforeAnything (.singleStep target) s rfl hreg hc).symm.trans h
  cases hn
  exact ⟨rfl, by simp [busCycles, newEvents, answered, isBusCycle]⟩

/-- Settles O40: only `singleStep` reaches the snapshot, and it drops it after its last three writes alone. -/
theorem savedBytesAreKept : Obligations.SavedBytesAreKept := by
  intro i s t snap h hp
  by_cases hi : ∃ target, i = .singleStep target
  · obtain ⟨target, rfl⟩ := hi
    by_cases hc : s.configured = true
    · have htriple : Triple (At (cyclesOf s) (some snap) []) (singleStepOp target)
          (fun _ => At (cyclesOf s) none (writeCycles (jumpBytes target) ++ writeCycles (savedBytes snap)))
          (fun m => At (cyclesOf s) (some snap) [] m ∨ Ahead (cyclesOf s) (some { snap with jumpTarget := target }) [] m ∨
            At (cyclesOf s) none (writeCycles (jumpBytes target) ++ writeCycles (savedBytes snap)) m) := by
        rw [singleStepOp_eq]
        exact triple_andThen (triple_mono (triple_quiet emits_grabOp) (fun _ h => h) (fun _ _ h => h) fun _ h => .inl h)
          fun _ => triple_mono (triple_afterGrab_pending snap target) (fun _ h => h) (fun _ _ h => h) fun _ h => .inr h
      obtain ⟨r, m, rfl, hg, hm⟩ := exec_singleStep h hc (hp ▸ htriple)
      have hback (hm : At (cyclesOf s) none (writeCycles (jumpBytes target) ++ writeCycles (savedBytes snap)) m) :
          ∃ target' before, Instr.singleStep target = .singleStep target' ∧ (finish r m).pending = none ∧
            busCycles s (finish r m) = before ++ [.memWrite 0#16 snap.saved0, .memWrite 1#16 snap.saved1,
              .memWrite 2#16 snap.saved2] :=
        ⟨target, _, rfl, (busCycles_of_at hg hm).1, (busCycles_of_at hg hm).2⟩
      rcases hm with hm | hm | ⟨more, hm⟩ | hm
      · exact .inr (.inr (hback hm))
      · exact .inl ((busCycles_of_at hg hm).1.trans hp)
      · exact .inr (.inl ⟨target, rfl, (busCycles_of_at hg hm).1⟩)
      · exact .inr (.inr (hback hm))
    · exact .inl ((exec_singleStep_unconfigured h (Bool.not_eq_true _ ▸ hc)).1.trans hp)
  · exact .inl ((exec_keeps (keeps_pending (mayWritePending_eq_false fun target e => hi ⟨target, e⟩)) h).trans hp)

/-! ## The bus let go -/

/-- A transfer hangs, or the arbiter is `Released` and BUSRQ released. -/
def LetGo (s : State) : Prop := s.hung = true ∨ (s.arb = .released ∧ lineReleased s .busrq = true)

theorem lineReleased_lineRelease (l : Line) (s : State) : lineReleased (lineRelease l s) l = true := by
  have hd := did_lineRelease l s
  refine lineReleased_of_releasedPin (x := ofLine s.lines l) hd.params ?_
  rw [hd.lines, lines_releaseActs, ofLine_withLine_same]

theorem arb_lineRelease (l : Line) (s : State) : (lineRelease l s).arb = s.arb :=
  (stays_lineRelease (sameControl_pinFrame l) s).arb

theorem hung_of_ends {α : Type} {o : Op α} (h : Has Ends o) {s t : State} (e : o s = (.hung, t)) : t.hung = true := by
  have := h s
  rw [e] at this
  exact this.hung.1

theorem letGo_releaseOp (s : State) : LetGo (releaseOp s).2 := by
  by_cases h : (releaseOp s).1 = .hung
  · exact .inl (hung_of_ends (law_releaseOp ((ends_instrLaw .release).reading rfl) ((ends_instrLaw .release).pins _ rfl)
      ((ends_instrLaw .release).arb rfl _)) (Prod.ext h rfl))
  · refine .inr ⟨releaseOp_arb s, ?_⟩
    unfold releaseOp at h ⊢
    rcases hm : attemptAll ((restoreOrder s.params).map restoreBank) (setArb .released s) with ⟨_ | e | _, m⟩ <;>
      simp only [hm] at h ⊢
    · exact lineReleased_lineRelease _ m
    · exact lineReleased_lineRelease _ m
    · exact absurd trivial h

/-- A `grab` that fails has let the bus go. -/
theorem triple_grabOp_letGo : Triple (fun _ => True) grabOp (fun _ _ => True) LetGo := by
  intro s _
  have hends : Has Ends grabOp := law_grabOp ((ends_instrLaw .grab).reading rfl) ((ends_instrLaw .grab).pins _ rfl)
    (ends_instrLaw .grab).setWarn (ends_instrLaw .grab).warning ((ends_instrLaw .grab).arb rfl _) ((ends_instrLaw .grab).raise _)
  cases ha : s.arb with
  | owned => rw [grabOp_of_owned ha]; trivial
  | released =>
    have hletgo (m : State) (hm : m.arb = .released) : LetGo (lineRelease .busrq m) :=
      .inr ⟨(arb_lineRelease _ m).trans hm, lineReleased_lineRelease _ m⟩
    have harb : (grabPolls s.params.grabPollLimit (lineAssert .busrq s)).2.arb = .released :=
      ((stays_grabPolls sameOwner_transferFrame _ _).arb.trans (stays_lineAssert (sameControl_pinFrame _) s).arb).trans ha
    rcases hg : grabOp s with ⟨_ | e | _, t⟩
    · trivial
    · unfold grabOp at hg
      simp only [ha] at hg
      rcases hp : grabPolls s.params.grabPollLimit (lineAssert .busrq s) with ⟨b | e' | _, m⟩ <;> rw [hp] at hg harb
      · cases b <;> cases hg
        exact hletgo m harb
      · have hr := (stays_restoreBank sameOwner_transferFrame (bankOf m.params .ctrl) m).arb.trans harb
        rcases hres : restoreBank (bankOf m.params .ctrl) m with ⟨_ | _ | _, m'⟩ <;> simp only [hres] at hg hr <;> cases hg
        · exact hletgo m' hr
        · exact hletgo m' hr
      · cases hg
    · exact .inl (hung_of_ends hends hg)

/-- An operation and the release on its error. -/
theorem triple_onError_letGo {α : Type} {o : Op α} (ho : Has Ends o) :
    Triple (fun _ => True) (onError o releaseOp) (fun _ _ => True) LetGo := by
  intro s _
  rcases hos : o s with ⟨a | e | _, m⟩ <;> simp only [onError, hos]
  · have h := letGo_releaseOp m
    rcases hr : releaseOp m with ⟨_ | _ | _, t⟩ <;> rw [hr] at h <;> exact h
  · exact .inl (hung_of_ends ho hos)

theorem triple_releaseOp_letGo : Triple (fun _ => True) releaseOp (fun _ => LetGo) LetGo := by
  intro s _
  have h := letGo_releaseOp s
  rcases hr : releaseOp s with ⟨_ | _ | _, t⟩ <;> rw [hr] at h <;> exact h

/-- The run between the grabs keeps the bus let go. -/
theorem triple_runAndSample_letGo : Triple LetGo runAndSample (fun _ _ => True) LetGo := by
  intro s hs
  have howner := stays_runAndSample sameOwner_transferFrame (sameOwner_pinFrame (l := .reset) nofun)
    (sameOwner_pinFrame (l := .wait) nofun) s
  have hends : Has Ends runAndSample := law_runAndSample ((ends_instrLaw .release).reading rfl)
    ((ends_instrLaw (.singleStep 0)).pins .reset rfl) ((ends_instrLaw (.singleStep 0)).pins .wait rfl)
  have hend := hends s
  rcases hr : runAndSample s with ⟨a | e | _, t⟩ <;> rw [hr] at hend howner
  · trivial
  · refine hs.imp (fun h => (hend.notHung nofun).trans h) fun ⟨ha, hl⟩ => ⟨howner.arb.trans ha, ?_⟩
    have hp : t.params = s.params := howner.params
    have hb : t.lines.busrq = s.lines.busrq := howner.busrq
    simpa only [lineReleased, ofLine, hp, hb] using hl
  · exact .inl hend.hung.1

theorem triple_singleStepOp_letGo (target : Addr) : Triple (fun _ => True) (singleStepOp target) (fun _ => LetGo) LetGo := by
  have hlaw := ends_instrLaw (.singleStep target)
  have hdrive := hlaw.driving rfl
  have hjump : Has Ends (andThen (takeSnapshot target) fun _ => writeBytes (jumpBytes target)) :=
    hlaw.andThen (law_takeSnapshot (hlaw.reading rfl) (law_readMemoryOp hdrive) target (hlaw.pending rfl)) fun _ =>
      law_writeBytes (hlaw.reading rfl) (law_writeMemoryOp hdrive) _
  have hrestore : Has Ends restoreBytes := law_restoreBytes (hlaw.reading rfl) (law_writeMemoryOp hdrive) (hlaw.pending rfl)
  exact triple_andThen triple_grabOp_letGo fun _ => triple_andThen (triple_onError_letGo hjump) fun _ =>
    triple_andThen triple_releaseOp_letGo fun _ => triple_andThen triple_runAndSample_letGo fun sample =>
      triple_andThen triple_grabOp_letGo fun _ => triple_andThen (triple_onError_letGo hrestore) fun _ =>
        triple_andThen triple_releaseOp_letGo fun _ => triple_result sample fun _ h => h

/-! ## The snapshot before the overwrite -/

/-- With its transfers answered the snapshot is taken. -/
theorem takeSnapshot_answered {s : State} (target : Addr) (hp : s.pending = none) (hs : s.seq ≠ none)
    (ha : TransfersAnswered 42 s) : ∃ t, takeSnapshot target s = (.ok (), t) := by
  have hread (a : Addr) : Answers s.params 14 14 (readMemoryOp a) fun _ _ _ => True :=
    (answers_readMemoryOp a).mono fun _ _ _ _ => trivial
  have hset (x : Option Snapshot) : Answers s.params 0 0 (act (setPending x)) fun _ _ _ => True := fun m _ _ _ =>
    ⟨(), _, [], id, rfl, Did.setPending x m, rfl, trivial⟩
  have hall := answers_andThen (q := 42) (hread 0#16) (fun b0 => answers_andThen (q := 28) (hread 1#16)
    (fun b1 => answers_andThen (q := 14) (hread 2#16) (fun b2 => hset (some ⟨b0, b1, b2, target⟩)) (by omega) (by omega))
    (by omega) (by omega)) (by omega) (by omega)
  obtain ⟨_, t, _, _, e, -⟩ := hall s rfl hs ha
  refine ⟨t, ?_⟩
  rw [takeSnapshot, hp]
  exact e

theorem keptOrBack_finish {s m : State} {target : Addr} {r : Res (BitVec 16 × Byte)} (hg : HistoryGrows s (finish r m))
    (h : KeptOrBack (cyclesOf s) target m) : ∃ b0 b1 b2 rest, busCycles s (finish r m) =
        [.memRead 0#16 b0, .memRead 1#16 b1, .memRead 2#16 b2] ++ rest ∧
      ((finish r m).pending = some ⟨b0, b1, b2, target⟩ ∨
        ((finish r m).pending = none ∧ rest = jumpAndRestoreCycles target b0 b1 b2)) := by
  obtain ⟨b0, b1, b2, ⟨more, h⟩ | h⟩ := h
  · exact ⟨b0, b1, b2, more, (busCycles_of_at hg h).2, .inl (busCycles_of_at hg h).1⟩
  · exact ⟨b0, b1, b2, _, (busCycles_of_at hg h).2, .inr ⟨(busCycles_of_at hg h).1, rfl⟩⟩

/-- Once the `grab` owns the bus and the three reads are through, the snapshot is kept or the bytes are back. -/
theorem singleStep_kept {s g : State} {target : Addr} (hreg : registryOk s.params = true) (hc : s.configured = true)
    (hp : s.pending = none) (hgrab : grabOp (setSeq (some (freshSeq (.singleStep target))) s) = (.ok (), g))
    (ha : TransfersAnswered 42 g) : ∃ t b0 b1 b2 rest, exec (.singleStep target) s = .next t ∧
      busCycles s t = [.memRead 0#16 b0, .memRead 1#16 b1, .memRead 2#16 b2] ++ rest ∧
      (t.pending = some ⟨b0, b1, b2, target⟩ ∨ (t.pending = none ∧ rest = jumpAndRestoreCycles target b0 b1 b2)) := by
  let s0 := setSeq (some (freshSeq (.singleStep target))) s
  have hemits := emits_grabOp s0
  have hends := law_grabOp ((ends_instrLaw .grab).reading rfl) ((ends_instrLaw .grab).pins _ rfl)
    (ends_instrLaw .grab).setWarn (ends_instrLaw .grab).warning ((ends_instrLaw .grab).arb rfl _)
    ((ends_instrLaw .grab).raise _) s0
  rw [hgrab] at hemits hends
  have hg : At (cyclesOf s) none [] g := ⟨hemits.pending.trans hp, hemits.cycles⟩
  obtain ⟨m1, hsnap⟩ := takeSnapshot_answered target hg.1 (Option.isSome_iff_ne_none.1 hends.seq) ha
  have hfirst : Triple (· = g) (takeSnapshot target)
      (fun _ s' => ∃ b0 b1 b2, At (cyclesOf s) (some ⟨b0, b1, b2, target⟩) (readCycles b0 b1 b2) s') fun _ => False := by
    rintro _ rfl
    have h := triple_takeSnapshot_first target _ hg
    rw [hsnap] at h ⊢
    exact h
  have hexec := (exec_command (i := .singleStep target) rfl s).trans (command_of_ok hreg)
  have hbody : commandBody (.singleStep target) s0 = andThen (snapshotAndJump target) (fun _ => runAndRestore) g := by
    have hpre : commandBody (.singleStep target) s0 = singleStepOp target s0 := precheck_passes hc nofun
    rw [hpre, singleStepOp_eq, andThen, hgrab]
  have hpost := triple_afterGrab hfirst (fun _ h => h) g rfl
  rw [← hbody] at hpost
  have hgrow := exec_stays historyGrows_commandFrame hexec
  rcases hm : commandBody (.singleStep target) s0 with ⟨r, m⟩
  rw [hm] at hpost
  have hkept : KeptOrBack (cyclesOf s) target m := by
    cases r with
    | ok a => exact hpost
    | failed e => exact hpost.resolve_left id
    | hung => exact hpost.resolve_left id
  rw [hm] at hexec hgrow
  obtain ⟨b0, b1, b2, rest, hrest⟩ := keptOrBack_finish hgrow hkept
  exact ⟨_, b0, b1, b2, rest, hexec, hrest⟩

/-- Settles O41: the snapshot is held before the jump is written, and dropped after the bytes are back; every way out of
`singleStep` passes a release. -/
theorem snapshotBeforeOverwrite : Obligations.SnapshotBeforeOverwrite := by
  refine ⟨fun s t target h hp => ?_, fun s g target hreg hc hp hgrab ha => ?_, fun s t target hc h ht => ?_⟩
  · by_cases hc : s.configured = true
    · have htriple : Triple (At (cyclesOf s) none []) (singleStepOp target) (fun _ => KeptOrBack (cyclesOf s) target)
          (fun m => OnlyReads (cyclesOf s) m ∨ KeptOrBack (cyclesOf s) target m) := by
        rw [singleStepOp_eq]
        refine triple_andThen (triple_mono (triple_quiet emits_grabOp) (fun _ h => h) (fun _ _ h => h) fun m h =>
          .inl ⟨[], h, by simp⟩) fun _ => triple_afterGrab (triple_takeSnapshot_first target) ?_
        exact fun m ⟨es, hm, hes⟩ => ⟨es, hm.quiet (emits_releaseOp m), hes⟩
      obtain ⟨r, m, rfl, hg, hm⟩ := exec_singleStep h hc (hp ▸ htriple)
      rcases hm with hm | ⟨es, hm, hes⟩ | hm
      · exact .inr (keptOrBack_finish hg hm)
      · exact .inl ⟨by rw [(busCycles_of_at hg hm).2]; exact hes, (busCycles_of_at hg hm).1⟩
      · exact .inr (keptOrBack_finish hg hm)
    · obtain ⟨hpend, hcyc⟩ := exec_singleStep_unconfigured h (Bool.not_eq_true _ ▸ hc)
      exact .inl ⟨by simp [hcyc], hpend.trans hp⟩
  · exact singleStep_kept hreg hc hp hgrab ha
  · have htriple : Triple (fun m => At (cyclesOf s) s.pending [] m) (singleStepOp target) (fun _ => LetGo) LetGo :=
      triple_mono (triple_singleStepOp_letGo target) (fun _ _ => trivial) (fun _ _ h => h) fun _ h => h
    obtain ⟨r, m, rfl, -, hm⟩ := exec_singleStep h hc htriple
    have hm : LetGo m := hm.elim id id
    rcases finish_cases r m with e | ⟨w, e⟩ <;> rw [e] at ht ⊢
    · exact hm.resolve_left (by simp [ht])
    · exact hm.resolve_left (by simp [show m.hung = false from ht])

end Sys2Proof.Machine

/-! # The bus around a port action (R42, R43, R45, R52)

One action of a run, seen from the bus: the registers and pins it leaves, the CPU and the memory after it, and the faults it
records. -/

namespace Sys2Proof.Machine

/-! ## Runs in parts -/

theorem Path.split {as bs : List Action} {s t : State} (h : Path (as ++ bs) s t) :
    ∃ m, Path as s m ∧ Path bs m t := by
  induction bs using List.reverseRecOn generalizing t with
  | nil => exact ⟨t, by simpa using h, .same (.refl t)⟩
  | append_singleton bs b ih =>
    rw [← List.append_assoc] at h
    generalize hacts : as ++ bs ++ [b] = acts at h
    cases h with
    | same h => simp at hacts
    | @step acts' a _ m _ h ha =>
      obtain ⟨rfl, rfl⟩ := List.append_singleton_inj.1 hacts
      obtain ⟨m', h1, h2⟩ := ih h
      exact ⟨m', h1, h2.step ha⟩

theorem Path.snoc {as : List Action} {a : Action} {s t : State} (h : Path (as ++ [a]) s t) :
    ∃ m, Path as s m ∧ a.Step m t := by
  generalize hacts : as ++ [a] = acts at h
  cases h with
  | same h => simp at hacts
  | @step acts' a' _ m _ h ha =>
    obtain ⟨rfl, rfl⟩ := List.append_singleton_inj.1 hacts
    exact ⟨m, h, ha⟩

theorem Path.cons {as : List Action} {a : Action} {s t : State} (h : Path (a :: as) s t) :
    ∃ m, Path [a] s m ∧ Path as m t := Path.split (as := [a]) h

theorem path_nil {s t : State} (h : Path [] s t) : SameWorld s t := by
  generalize hacts : ([] : List Action) = acts at h
  cases h with
  | same h => exact h
  | step h ha => simp at hacts

theorem Path.one {a : Action} {s t : State} (h : Path [a] s t) : ∃ m, SameWorld s m ∧ a.Step m t := by
  obtain ⟨m, h1, h2⟩ := Path.snoc (as := []) h
  exact ⟨m, path_nil h1, h2⟩

/-! ## One action -/

theorem contentionEvents_faults (s : State) (d : Draw) : (contentionEvents s d).filter isFault = contentionEvents s d :=
  List.filter_eq_self.2 fun e he => by
    obtain ⟨id, m, rfl⟩ := mem_contentionEvents he
    rfl

/-- A port action from `s` to `t`, with the state `n` that its bus is observed in: the registers and pins after the action,
the CPU after its moves and the RESET line seen, and the memory and cycle the CPU left. -/
structure BusStep (a : Action) (s n t : State) : Prop where
  reads : a.Reads s
  params : n.params = s.params
  chips : n.chips = a.chips s.params s.chips
  lines : n.lines = a.lines s.lines
  cpu : n.cpu = resetSeen (lineActive n (drawAt s 0) .reset) (cpuMoves (drawAt s 0) (dropDraw s)).cpu
  mem : n.mem = (cpuMoves (drawAt s 0) (dropDraw s)).mem
  params_after : t.params = s.params
  chips_after : t.chips = n.chips
  lines_after : t.lines = n.lines
  cpu_after : t.cpu = n.cpu
  mem_after : t.mem = memoryNow (drawAt s 0) n
  draws : ∀ i, drawAt t i = drawAt s (i + 1)
  faults : t.history.filter isFault = s.history.filter isFault ++
    contentionEvents (busBetween (drawAt s 0) (dropDraw s)) (drawBetween (drawAt s 0)) ++ contentionEvents n (drawAt s 0)

theorem Action.Step.bus {a : Action} {s t : State} (h : a.Step s t) (hp : a.isPort = true) : ∃ n, BusStep a s n t := by
  rcases h with ⟨hn, -⟩ | ⟨-, hr, f, e, hf, he, hc, hl, hw⟩
  · rw [hp] at hn; cases hn
  · refine ⟨seeReset (drawAt s 0) (tick (f (envMove (drawAt s 0) (dropDraw s)))), ?_⟩
    constructor
    case reads => exact hr
    case params => simp [hf.params]
    case chips => simp [hc]
    case lines => simp [hl]
    case cpu => simp only [seeReset_cpu, tick_cpu, hf.cpu]; rfl
    case mem => simp only [seeReset_mem, tick_mem, hf.mem]; rfl
    case params_after => rw [hw.params]; simp [hf.params]
    case chips_after => rw [hw.chips]; simp
    case lines_after => rw [hw.lines]; simp
    case cpu_after => rw [hw.cpu]; rfl
    case mem_after => rw [hw.mem]; rfl
    case draws =>
      intro i
      rw [hw.draws, drawAt_portAction _ f i (by simp [hf.script]) (by simp [hf.draws]), drawAt_dropDraw]
    case faults =>
      rw [hw.faults]
      simp only [portAction, observeBus_history, seeReset_history, tick_history, hf.history, envMove_history,
        List.filter_append, contentionEvents_faults, dropDraw_history]
      simp [he]

/-- An entry of a bus cycle leaves the world as it is. -/
theorem Action.Step.entry {a : Action} {s t : State} (h : a.Step s t) (hp : a.isPort = false) : SameWorld s t := by
  rcases h with ⟨-, h⟩ | ⟨h, -⟩
  · exact h
  · rw [hp] at h; cases h

theorem Action.chips_entry {a : Action} (hp : a.isPort = false) (p : Params) (e : Expanders) : a.chips p e = e := by
  cases a
  case cycle => rfl
  all_goals cases hp

theorem Action.lines_entry {a : Action} (hp : a.isPort = false) (x : PerLine LinePin) : a.lines x = x := by
  cases a
  case cycle => rfl
  all_goals cases hp

/-- What a run leaves of the registers, pins and draws. -/
structure Ended (acts : List Action) (s t : State) : Prop where
  params : t.params = s.params
  chips : t.chips = acts.foldl (Action.chips s.params) s.chips
  lines : t.lines = acts.foldl Action.lines s.lines
  draws : ∀ i, drawAt t i = drawAt s (portCount acts + i)

theorem Path.ended {acts : List Action} {s t : State} (h : Path acts s t) : Ended acts s t := by
  induction h with
  | same h => exact ⟨h.params, h.chips, h.lines, fun i => by rw [h.draws, portCount_nil, Nat.zero_add]⟩
  | @step acts a s m t _ ha ih =>
    cases hp : a.isPort with
    | false =>
      have hw := ha.entry hp
      refine ⟨hw.params.trans ih.params, ?_, ?_, fun i => ?_⟩
      · rw [hw.chips, ih.chips, List.foldl_append]; exact (a.chips_entry hp _ _).symm
      · rw [hw.lines, ih.lines, List.foldl_append]; exact (a.lines_entry hp _).symm
      · rw [hw.draws, ih.draws, portCount_append]; simp [portCount, hp]
    | true =>
      obtain ⟨n, hn⟩ := ha.bus hp
      refine ⟨hn.params_after.trans ih.params, ?_, ?_, fun i => ?_⟩
      · rw [hn.chips_after, hn.chips, ih.params, ih.chips, List.foldl_append]; rfl
      · rw [hn.lines_after, hn.lines, ih.lines, List.foldl_append]; rfl
      · rw [hn.draws, ih.draws, portCount_append]
        simp [portCount, hp, Nat.add_assoc, Nat.add_comm 1]

end Sys2Proof.Machine

/-! # The levels of the bus (R40 to R46)

What the drivers make of the lines under the default wiring: the banks of the address and data lines, the strobes of the
control bank, the bus cycle they make, and the contention of their drivers. -/

namespace Sys2Proof.Machine

/-! ## The default wiring -/

/-- The places, masks and polarities of the default registry (R131). -/
structure Wired (p : Params) : Prop where
  lo : bankOf p .addrLo = ⟨.chip0, .portA⟩
  hi : bankOf p .addrHi = ⟨.chip0, .portB⟩
  data : bankOf p .data = ⟨.chip1, .portA⟩
  ctrl : bankOf p .ctrl = ⟨.chip1, .portB⟩
  busak : maskOf p .busak = 0x01#8
  rd : maskOf p .rd = 0x02#8
  wr : maskOf p .wr = 0x04#8
  ioreq : maskOf p .ioreq = 0x08#8
  mreq : maskOf p .mreq = 0x10#8
  m1 : maskOf p .m1 = 0x20#8
  activeLow : p.activeHigh = []

theorem wired_of_defaultWiring {p : Params} (h : defaultWiring p = true) : Wired p := by
  have hlow := activeHigh_of_defaultWiring h
  have hmap := signalMap_of_defaultWiring h
  obtain ⟨chips, _, map⟩ := p
  obtain rfl : map = defaultMap := hmap
  cases chips <;> exact ⟨rfl, rfl, rfl, rfl, rfl, rfl, rfl, rfl, rfl, rfl, hlow⟩

/-- The cycle that active-low strobes make, by which of them are low (R45, R46). -/
def cycleOfLow (mreq ioreq rd wr : Bool) : CycleKind :=
  match mreq, ioreq, rd, wr with
  | true, false, true, false => .memRead
  | true, false, false, true => .memWrite
  | false, true, true, false => .ioRead
  | false, true, false, true => .ioWrite
  | _, _, _, _ => .none

theorem cycleOfLow_mreq : ∀ b c d, cycleOfLow false b c d ≠ .memRead ∧ cycleOfLow false b c d ≠ .memWrite := by decide

theorem cycleOfLow_rd : ∀ a b d, isReadCycle (cycleOfLow a b false d) = false := by decide

theorem cycleOfLow_write : ∀ a d, cycleOfLow a false false d = .none ∨ cycleOfLow a false false d = .memWrite := by decide

theorem cycleOfLow_read : ∀ a c, cycleOfLow a false c false = .none ∨ cycleOfLow a false c false = .memRead := by decide

section
variable {p : Params} (hw : Wired p)
include hw

theorem Wired.activeLevel (n : SignalName) : activeLevel p n = false := by simp [Machine.activeLevel, hw.activeLow]

theorem Wired.isActive (n : SignalName) (v : Byte) : isActive p n v = (v &&& maskOf p n == 0#8) := by
  simp [Machine.isActive, highBits, hw.activeLevel]

theorem Wired.strobeMask : strobeMask p = 0x1E#8 := by simp [Machine.strobeMask, hw.mreq, hw.ioreq, hw.rd, hw.wr]

theorem Wired.strobeHigh : strobeHigh p = 0#8 := by simp [Machine.strobeHigh, highBits, hw.activeLevel]

theorem Wired.ctrlValue (m : Byte) : ctrlValue p m = ~~~0x1E#8 ||| ~~~m := by
  simp [Machine.ctrlValue, hw.strobeMask, hw.strobeHigh]

theorem Wired.cycleKind (v : Byte) : cycleKind p v =
    cycleOfLow (v &&& 0x10#8 == 0#8) (v &&& 0x08#8 == 0#8) (v &&& 0x02#8 == 0#8) (v &&& 0x04#8 == 0#8) := by
  simp only [Machine.cycleKind, hw.isActive, hw.mreq, hw.ioreq, hw.rd, hw.wr, cycleOfLow] <;> rfl

theorem Wired.assertActs (l : Line) : assertActs p l = [.level l false, .dir l .output] := by
  simp [Machine.assertActs, hw.activeLevel]

theorem Wired.releaseActs (l : Line) : releaseActs p l = [.dir l .input] := by simp [Machine.releaseActs, hw.activeLevel]

end

/-! ## Lines with one driver or none -/

section
variable {k block blockLevel outside outsideLevel memory memoryLevel pullUp float : Byte}

/-- Lines that no one drives and that a pull-up holds, or a draw, read 1. -/
theorem resolve_undriven (hb : k &&& block = 0#8) (ho : k &&& outside = 0#8) (hm : k &&& memory = 0#8)
    (hf : k &&& (pullUp ||| float) = k) :
    k &&& resolve block blockLevel outside outsideLevel memory memoryLevel pullUp float = k := by
  ext i hi
  have hbi := congrArg (·[i]) hb
  have hoi := congrArg (·[i]) ho
  have hmi := congrArg (·[i]) hm
  have hfi := congrArg (·[i]) hf
  simp only [resolve, contended, BitVec.getElem_and, BitVec.getElem_or, BitVec.getElem_not, BitVec.getElem_zero] at *
  cases hk : k[i] <;> simp_all

/-- Lines that the block alone drives have the level it drives. -/
theorem resolve_block (hb : k &&& block = k) (ho : k &&& outside = 0#8) (hm : k &&& memory = 0#8) :
    k &&& resolve block blockLevel outside outsideLevel memory memoryLevel pullUp float = k &&& blockLevel := by
  ext i hi
  have hbi := congrArg (·[i]) hb
  have hoi := congrArg (·[i]) ho
  have hmi := congrArg (·[i]) hm
  simp only [resolve, contended, BitVec.getElem_and, BitVec.getElem_or, BitVec.getElem_not, BitVec.getElem_zero] at *
  cases hk : k[i] <;> simp_all

/-- Lines that an outside party alone drives have the level it drives. -/
theorem resolve_outside (hb : k &&& block = 0#8) (ho : k &&& outside = k) (hm : k &&& memory = 0#8) :
    k &&& resolve block blockLevel outside outsideLevel memory memoryLevel pullUp float = k &&& outsideLevel := by
  ext i hi
  have hbi := congrArg (·[i]) hb
  have hoi := congrArg (·[i]) ho
  have hmi := congrArg (·[i]) hm
  simp only [resolve, contended, BitVec.getElem_and, BitVec.getElem_or, BitVec.getElem_not, BitVec.getElem_zero] at *
  cases hk : k[i] <;> simp_all

/-- Lines that the memory alone drives have the level it drives. -/
theorem resolve_memory (hb : k &&& block = 0#8) (ho : k &&& outside = 0#8) (hm : k &&& memory = k) :
    k &&& resolve block blockLevel outside outsideLevel memory memoryLevel pullUp float = k &&& memoryLevel := by
  ext i hi
  have hbi := congrArg (·[i]) hb
  have hoi := congrArg (·[i]) ho
  have hmi := congrArg (·[i]) hm
  simp only [resolve, contended, BitVec.getElem_and, BitVec.getElem_or, BitVec.getElem_not, BitVec.getElem_zero] at *
  cases hk : k[i] <;> simp_all

end

@[simp] theorem allOnes_and_byte (v : Byte) : 0xFF#8 &&& v = v := BitVec.allOnes_and (x := v)

/-! ## The outside of each bank -/

/-- The bits the block drives on a bank, by its registers. -/
def drives (p : Params) (e : Expanders) (id : BankId) : Byte := outputBits p (bankRegs e id).iodir

theorem blockDrive_eq (s : State) (id : BankId) : blockDrive s id = drives s.params s.chips id := rfl

section
variable {s : State} (hw : Wired s.params)
include hw

/-- A granted CPU drives no address or data line, and the memory is the only other driver there (R41). -/
theorem outsideDrive_granted (hg : s.cpu.granted = true) (d : Draw) {n : SignalName}
    (hn : n = .addrLo ∨ n = .addrHi ∨ n = .data) : outsideDrive s d (bankOf s.params n) = 0#8 := by
  rcases hn with rfl | rfl | rfl <;>
    simp [outsideDrive, cpuOwnMask, cpuAlwaysMask, hg, hw.lo, hw.hi, hw.data, hw.ctrl]

/-- The lines of the control bank that a granted CPU leaves to the block (R41). -/
theorem outsideDrive_ctrl_granted (hg : s.cpu.granted = true) (d : Draw) {k : Byte} (hk : k &&& 0x1E#8 = k) :
    k &&& outsideDrive s d (bankOf s.params .ctrl) = 0#8 := by
  have hbits : ∀ x : Byte, 0x1E#8 &&& (0x21#8 ||| (x &&& ~~~0x21#8 &&& ~~~0x1E#8)) = 0#8 := by decide
  have hout : 0x1E#8 &&& outsideDrive s d (bankOf s.params .ctrl) = 0#8 := by
    simpa [outsideDrive, cpuOwnMask, cpuAlwaysMask, hg, hw.lo, hw.hi, hw.data, hw.ctrl, hw.strobeMask, hw.busak, hw.m1]
      using hbits _
  rw [← hk, BitVec.and_assoc, hout, BitVec.and_zero]

end

/-! ## The strobes and the bus cycle -/

/-- No party but the block puts a strobe Active: none drives one, and an undriven one reads 1. -/
structure StrobesFree (s : State) (d : Draw) : Prop where
  outside : 0x1E#8 &&& outsideDrive s d (bankOf s.params .ctrl) = 0#8
  pulled : 0x1E#8 &&& ((bankRegs s.chips (bankOf s.params .ctrl)).gppu ||| (ofBank d.banks (bankOf s.params .ctrl)).float) =
    0x1E#8

theorem and_zero_of_sub {k m x : Byte} (hk : k &&& m = k) (h : m &&& x = 0#8) : k &&& x = 0#8 := by
  rw [← hk, BitVec.and_assoc, h, BitVec.and_zero]

theorem and_of_sub {k m x y : Byte} (hk : k &&& m = k) (h : m &&& x = m &&& y) : k &&& x = k &&& y := by
  rw [← hk, BitVec.and_assoc, BitVec.and_assoc, h]

theorem strobesFree_of_granted {s : State} (hw : Wired s.params) (hg : s.cpu.granted = true)
    (hpull : (bankRegs s.chips (bankOf s.params .ctrl)).gppu = 0xFF#8) (d : Draw) : StrobesFree s d :=
  ⟨outsideDrive_ctrl_granted hw hg d rfl, by rw [hpull]; exact congrArg (0x1E#8 &&& ·) BitVec.allOnes_or⟩

theorem strobesFree_of_quiet {s : State} {d : Draw} (hw : Wired s.params) (h : quietDraw s.params d) : StrobesFree s d := by
  obtain ⟨-, hdrive, hfloat⟩ := h
  refine ⟨?_, by rw [hfloat]; exact congrArg (0x1E#8 &&& ·) BitVec.or_allOnes⟩
  simp [outsideDrive, cpuAlwaysMask, hdrive, hw.busak, hw.m1]

section
variable {s : State} {d : Draw} (hf : StrobesFree s d) {k : Byte} (hk : k &&& 0x1E#8 = k)
include hf hk

/-- A strobe that the block does not drive is Inactive. -/
theorem ctrlLevels_undriven (hb : k &&& blockDrive s (bankOf s.params .ctrl) = 0#8) : k &&& ctrlLevels s d = k :=
  resolve_undriven hb (and_zero_of_sub hk hf.outside) BitVec.and_zero
    ((and_of_sub hk (hf.pulled.trans (BitVec.and_allOnes (x := 0x1E#8)).symm)).trans BitVec.and_allOnes)

/-- A strobe that the block drives has the level of its latch. -/
theorem ctrlLevels_driven (hb : k &&& blockDrive s (bankOf s.params .ctrl) = k) :
    k &&& ctrlLevels s d = k &&& (bankRegs s.chips (bankOf s.params .ctrl)).olat :=
  resolve_block hb (and_zero_of_sub hk hf.outside) BitVec.and_zero

/-- A strobe that the block drives with its latch low is Active. -/
theorem ctrlLevels_active (hb : k &&& blockDrive s (bankOf s.params .ctrl) = k)
    (ho : k &&& (bankRegs s.chips (bankOf s.params .ctrl)).olat = 0#8) : k &&& ctrlLevels s d = 0#8 :=
  (ctrlLevels_driven hf hk hb).trans ho

end

theorem busKind_of_levels {s : State} (hw : Wired s.params) (d : Draw) : busKind s d =
    cycleOfLow (0x10#8 &&& ctrlLevels s d == 0#8) (0x08#8 &&& ctrlLevels s d == 0#8) (0x02#8 &&& ctrlLevels s d == 0#8)
      (0x04#8 &&& ctrlLevels s d == 0#8) := by
  rw [busKind, hw.cycleKind]
  simp only [BitVec.and_comm]

section
variable {s : State} {d : Draw} (hw : Wired s.params) (hf : StrobesFree s d)
include hw hf

/-- With MREQ undriven there is no memory cycle. -/
theorem busKind_of_mreq (hb : 0x10#8 &&& blockDrive s (bankOf s.params .ctrl) = 0#8) :
    busKind s d ≠ .memRead ∧ busKind s d ≠ .memWrite := by
  rw [busKind_of_levels hw, ctrlLevels_undriven hf rfl hb]
  exact cycleOfLow_mreq _ _ _

/-- With RD undriven there is no read cycle. -/
theorem isReadCycle_of_rd (hb : 0x02#8 &&& blockDrive s (bankOf s.params .ctrl) = 0#8) :
    isReadCycle (busKind s d) = false := by
  rw [busKind_of_levels hw, ctrlLevels_undriven hf rfl hb]
  exact cycleOfLow_rd _ _ _

/-- With MREQ and WR the only strobes driven, the only cycle is a memory write. -/
theorem busKind_of_write (hb : ~~~0x14#8 &&& blockDrive s (bankOf s.params .ctrl) = 0#8) :
    busKind s d = .none ∨ busKind s d = .memWrite := by
  rw [busKind_of_levels hw, ctrlLevels_undriven (k := 0x02#8) hf rfl (and_zero_of_sub rfl hb),
    ctrlLevels_undriven (k := 0x08#8) hf rfl (and_zero_of_sub rfl hb)]
  exact cycleOfLow_write _ _

/-- With MREQ and RD the only strobes driven, the only cycle is a memory read. -/
theorem busKind_of_read (hb : ~~~0x12#8 &&& blockDrive s (bankOf s.params .ctrl) = 0#8) :
    busKind s d = .none ∨ busKind s d = .memRead := by
  rw [busKind_of_levels hw, ctrlLevels_undriven (k := 0x04#8) hf rfl (and_zero_of_sub rfl hb),
    ctrlLevels_undriven (k := 0x08#8) hf rfl (and_zero_of_sub rfl hb)]
  exact cycleOfLow_read _ _

/-- MREQ and WR driven Active make a memory write. -/
theorem busKind_memWrite (hb : blockDrive s (bankOf s.params .ctrl) = 0x14#8)
    (ho : 0x14#8 &&& (bankRegs s.chips (bankOf s.params .ctrl)).olat = 0#8) : busKind s d = .memWrite := by
  rw [busKind_of_levels hw, ctrlLevels_undriven (k := 0x02#8) hf rfl (by rw [hb]; rfl),
    ctrlLevels_undriven (k := 0x08#8) hf rfl (by rw [hb]; rfl),
    ctrlLevels_active (k := 0x10#8) hf rfl (by rw [hb]; rfl) (and_zero_of_sub rfl ho),
    ctrlLevels_active (k := 0x04#8) hf rfl (by rw [hb]; rfl) (and_zero_of_sub rfl ho)]
  rfl

/-- MREQ and RD driven Active make a memory read. -/
theorem busKind_memRead (hb : blockDrive s (bankOf s.params .ctrl) = 0x12#8)
    (ho : 0x12#8 &&& (bankRegs s.chips (bankOf s.params .ctrl)).olat = 0#8) : busKind s d = .memRead := by
  rw [busKind_of_levels hw, ctrlLevels_undriven (k := 0x04#8) hf rfl (by rw [hb]; rfl),
    ctrlLevels_undriven (k := 0x08#8) hf rfl (by rw [hb]; rfl),
    ctrlLevels_active (k := 0x10#8) hf rfl (by rw [hb]; rfl) (and_zero_of_sub rfl ho),
    ctrlLevels_active (k := 0x02#8) hf rfl (by rw [hb]; rfl) (and_zero_of_sub rfl ho)]
  rfl

/-- With MREQ undriven the bus leaves the memory as it is. -/
theorem memoryNow_of_mreq (hb : 0x10#8 &&& blockDrive s (bankOf s.params .ctrl) = 0#8) : memoryNow d s = s.mem := by
  obtain ⟨hr, hwr⟩ := busKind_of_mreq hw hf hb
  unfold memoryNow
  split <;> simp_all

end

/-! ## The lines of a granted bus -/

/-- The block holds an address on the address lines. -/
structure AddrHeld (p : Params) (e : Expanders) (a : Addr) : Prop where
  lo : drives p e (bankOf p .addrLo) = 0xFF#8
  loLatch : (bankRegs e (bankOf p .addrLo)).olat = addrLow a
  hi : drives p e (bankOf p .addrHi) = 0xFF#8
  hiLatch : (bankRegs e (bankOf p .addrHi)).olat = addrHigh a

/-- The block holds a byte on the data lines. -/
structure DataHeld (p : Params) (e : Expanders) (v : Byte) : Prop where
  drive : drives p e (bankOf p .data) = 0xFF#8
  latch : (bankRegs e (bankOf p .data)).olat = v

theorem addrOf_halves (a : Addr) : addrOf (addrHigh a) (addrLow a) = a := by
  simp only [addrOf, addrHigh, addrLow]
  exact BitVec.extractLsb'_append_extractLsb' ..

section
variable {s : State} {d : Draw} (hw : Wired s.params) (hg : s.cpu.granted = true)
include hw hg

/-- A line that the block drives alone has the level of its latch. -/
theorem plainLevels_driven {n : SignalName} (hn : n = .addrLo ∨ n = .addrHi ∨ n = .data)
    (hb : drives s.params s.chips (bankOf s.params n) = 0xFF#8) :
    plainLevels s d (bankOf s.params n) = (bankRegs s.chips (bankOf s.params n)).olat := by
  have h : 0xFF#8 &&& plainLevels s d (bankOf s.params n) = 0xFF#8 &&& (bankRegs s.chips (bankOf s.params n)).olat :=
    resolve_block ((allOnes_and_byte _).trans hb) ((allOnes_and_byte _).trans (outsideDrive_granted hw hg d hn)) rfl
  simpa using h

/-- A line that no one drives is held at 1 by its pull-up. -/
theorem plainLevels_pulledUp {n : SignalName} (hn : n = .addrLo ∨ n = .addrHi ∨ n = .data)
    (hb : drives s.params s.chips (bankOf s.params n) = 0#8) (hpull : (bankRegs s.chips (bankOf s.params n)).gppu = 0xFF#8) :
    plainLevels s d (bankOf s.params n) = 0xFF#8 := by
  have h : 0xFF#8 &&& plainLevels s d (bankOf s.params n) = 0xFF#8 :=
    resolve_undriven ((allOnes_and_byte _).trans hb) ((allOnes_and_byte _).trans (outsideDrive_granted hw hg d hn)) rfl
      (by rw [allOnes_and_byte, hpull]; exact BitVec.allOnes_or)
  simpa using h

theorem busAddress_of_held {a : Addr} (h : AddrHeld s.params s.chips a) : busAddress s d = a := by
  rw [busAddress, plainLevels_driven hw hg (.inr (.inl rfl)) h.hi, plainLevels_driven hw hg (.inl rfl) h.lo, h.hiLatch,
    h.loLatch, addrOf_halves]

theorem dataOutside_granted : dataOutside s d = 0#8 := by
  unfold dataOutside
  split
  · rfl
  · exact outsideDrive_granted hw hg d (.inr (.inr rfl))

theorem dataLevels_of_held {v : Byte} (h : DataHeld s.params s.chips v) (hk : isReadCycle (busKind s d) = false) :
    dataLevels s d = v := by
  have hl : 0xFF#8 &&& dataLevels s d = 0xFF#8 &&& (bankRegs s.chips (bankOf s.params .data)).olat :=
    resolve_block ((allOnes_and_byte _).trans h.drive) ((allOnes_and_byte _).trans (dataOutside_granted hw hg))
      (by simp [memoryDrive, hk])
  simpa [h.latch] using hl

/-- In a read cycle the data lines have the byte of the answer. -/
theorem dataLevels_of_read (hb : drives s.params s.chips (bankOf s.params .data) = 0#8)
    (hk : isReadCycle (busKind s d) = true) : dataLevels s d = answerByte s d := by
  have hl : 0xFF#8 &&& dataLevels s d = 0xFF#8 &&& answerByte s d :=
    resolve_memory ((allOnes_and_byte _).trans hb) ((allOnes_and_byte _).trans (dataOutside_granted hw hg))
      (by simp [memoryDrive, hk])
  simpa using hl

/-- Outside a read cycle undriven data lines are held at 1 by their pull-ups. -/
theorem dataLevels_pulledUp (hb : drives s.params s.chips (bankOf s.params .data) = 0#8)
    (hpull : (bankRegs s.chips (bankOf s.params .data)).gppu = 0xFF#8) (hk : isReadCycle (busKind s d) = false) :
    dataLevels s d = 0xFF#8 := by
  have hl : 0xFF#8 &&& dataLevels s d = 0xFF#8 :=
    resolve_undriven ((allOnes_and_byte _).trans hb) ((allOnes_and_byte _).trans (dataOutside_granted hw hg))
      (by simp [memoryDrive, hk]) (by rw [allOnes_and_byte, hpull]; exact BitVec.allOnes_or)
  simpa using hl

end

/-! ## Memory cycles of the block -/

section
variable {s : State} {d : Draw} {a : Addr} (hw : Wired s.params) (hg : s.cpu.granted = true) (hf : StrobesFree s d)
  (ha : AddrHeld s.params s.chips a)
include hw hg hf ha

/-- While MREQ and WR alone are driven, the memory is kept or the held byte is stored at the held address. -/
theorem memoryNow_of_write {v : Byte} (hv : DataHeld s.params s.chips v)
    (hb : ~~~0x14#8 &&& blockDrive s (bankOf s.params .ctrl) = 0#8) :
    memoryNow d s = s.mem ∨ memoryNow d s = memWrite s.mem a.toNat v := by
  rcases busKind_of_write hw hf hb with hk | hk
  · exact .inl (by simp [memoryNow, hk])
  · refine .inr ?_
    simp only [memoryNow, hk, busAddress_of_held hw hg ha]
    rw [dataLevels_of_held hw hg hv (by rw [hk]; rfl)]

/-- While MREQ and WR are driven Active, the held byte is stored. -/
theorem memoryNow_memWrite {v : Byte} (hv : DataHeld s.params s.chips v) (hb : blockDrive s (bankOf s.params .ctrl) = 0x14#8)
    (ho : 0x14#8 &&& (bankRegs s.chips (bankOf s.params .ctrl)).olat = 0#8) :
    memoryNow d s = memWrite s.mem a.toNat v := by
  have hk := busKind_memWrite hw hf hb ho
  simp only [memoryNow, hk, busAddress_of_held hw hg ha]
  rw [dataLevels_of_held hw hg hv (by rw [hk]; rfl)]

/-- While MREQ and RD alone are driven, the memory is kept or a byte that nothing had determined is. -/
theorem memoryNow_of_read (hb : ~~~0x12#8 &&& blockDrive s (bankOf s.params .ctrl) = 0#8) :
    memoryNow d s = s.mem ∨ (memRead s.mem a.toNat = none ∧ memoryNow d s = memWrite s.mem a.toNat d.busByte) := by
  rcases busKind_of_read hw hf hb with hk | hk
  · exact .inl (by simp [memoryNow, hk])
  · simp only [memoryNow, hk, busAddress_of_held hw hg ha]
    split
    next hn => exact .inr ⟨hn, rfl⟩
    next => exact .inl rfl

/-- While MREQ and RD are driven Active under `SimMem`, the byte at the held address is determined. -/
theorem memoryNow_memRead (hs : s.params.oracle = .simMem) (hb : blockDrive s (bankOf s.params .ctrl) = 0x12#8)
    (ho : 0x12#8 &&& (bankRegs s.chips (bankOf s.params .ctrl)).olat = 0#8) :
    memRead (memoryNow d s) a.toNat ≠ none := by
  have hk := busKind_memRead hw hf hb ho
  simp only [memoryNow, hk, busAddress_of_held hw hg ha, hs]
  split
  next => rw [memRead_memWrite_same]; simp
  next h => exact fun hn => h rfl hn

end

end Sys2Proof.Machine

/-! # Runs of the block on a granted bus (R41, R43, R52)

While BUSRQ is Active and RESET is not, a granted CPU stays granted and stores nothing; and while the block drives only what
a granted CPU leaves to it, nothing contends. A run is cut into stages, each of which writes the drive registers of one bank. -/

namespace Sys2Proof.Machine

/-! ## The grant -/

theorem lineActive_congr {s t : State} (hp : t.params = s.params) {l : Line} (hl : ofLine t.lines l = ofLine s.lines l)
    (d : Draw) : lineActive t d l = lineActive s d l := by
  simp only [lineActive, lineLevel, hp, hl]

/-- The CPU is granted, and the lines keep it so (R52). -/
structure Granted (s : State) : Prop where
  wired : Wired s.params
  cpu : s.cpu.granted = true
  busrq : ∀ d, lineActive s d .busrq = true
  reset : ∀ d, lineActive s d .reset = false

/-- An action that acts on neither BUSRQ nor RESET. -/
def Action.SparesGrant : Action → Prop
  | .level l _ => l ≠ .busrq ∧ l ≠ .reset
  | .dir l _ => l ≠ .busrq ∧ l ≠ .reset
  | .pullUp l _ => l ≠ .busrq ∧ l ≠ .reset
  | _ => True

theorem Action.NoPin.sparesGrant {a : Action} (h : a.NoPin) : a.SparesGrant := by
  cases a
  case level | dir | pullUp => exact h.elim
  all_goals trivial

theorem ofLine_lines_sparesGrant {a : Action} (ha : a.SparesGrant) {l : Line} (hl : l = .busrq ∨ l = .reset)
    (x : PerLine LinePin) : ofLine (a.lines x) l = ofLine x l := by
  have hne : ∀ l', l' ≠ Line.busrq ∧ l' ≠ .reset → l ≠ l' := by rintro l' ⟨h1, h2⟩ rfl; exact hl.elim h1 h2
  cases a
  case level l' v => exact ofLine_withLine_of_ne _ _ (hne l' ha)
  case dir l' v => exact ofLine_withLine_of_ne _ _ (hne l' ha)
  case pullUp l' v => exact ofLine_withLine_of_ne _ _ (hne l' ha)
  all_goals rfl

section
variable {a : Action} {s n t : State}

theorem nextGranted_of_granted (h : Granted s) (d : Draw) : nextGranted d (dropDraw s) = true := by
  have hr : lineActive (dropDraw s) d .reset = false := (lineActive_congr (by simp) (by simp) d).trans (h.reset d)
  have hb : lineActive (dropDraw s) d .busrq = true := (lineActive_congr (by simp) (by simp) d).trans (h.busrq d)
  simp [nextGranted, hr, hb, h.cpu]

theorem BusStep.lineActive_spared (h : BusStep a s n t) (ha : a.SparesGrant) {l : Line} (hl : l = .busrq ∨ l = .reset) (d : Draw) :
    lineActive n d l = lineActive s d l :=
  lineActive_congr h.params (by rw [h.lines]; exact ofLine_lines_sparesGrant ha hl _) d

/-- A granted CPU stays granted, and stores nothing, at an action that spares BUSRQ and RESET. -/
theorem BusStep.granted (h : BusStep a s n t) (ha : a.SparesGrant) (hs : Granted s) : Granted n ∧ n.mem = s.mem := by
  have hnext := nextGranted_of_granted hs (drawAt s 0)
  refine ⟨⟨h.params ▸ hs.wired, ?_, fun d => ?_, fun d => ?_⟩, ?_⟩
  · rw [h.cpu, h.lineActive_spared ha (.inr rfl), hs.reset]
    exact hnext
  · rw [h.lineActive_spared ha (.inl rfl), hs.busrq]
  · rw [h.lineActive_spared ha (.inr rfl), hs.reset]
  · rw [h.mem]
    simp [cpuMoves, hnext, hs.cpu]

theorem BusStep.granted_after (h : BusStep a s n t) (hn : Granted n) : Granted t :=
  ⟨h.params_after.trans h.params.symm ▸ hn.wired, h.cpu_after ▸ hn.cpu,
    fun d => (lineActive_congr (h.params_after.trans h.params.symm) (by rw [h.lines_after]) d).trans (hn.busrq d),
    fun d => (lineActive_congr (h.params_after.trans h.params.symm) (by rw [h.lines_after]) d).trans (hn.reset d)⟩

theorem SameWorld.granted (h : SameWorld s t) (hs : Granted s) : Granted t :=
  ⟨h.params ▸ hs.wired, h.cpu ▸ hs.cpu,
    fun d => (lineActive_congr h.params (by rw [h.lines]) d).trans (hs.busrq d),
    fun d => (lineActive_congr h.params (by rw [h.lines]) d).trans (hs.reset d)⟩

end

/-! ## Contention -/

theorem contentionEvents_nil {s : State} {d : Draw} (h : ∀ id, chipPresent s.params.numChips id.chip = true →
    bankContention s d id = 0#8) : contentionEvents s d = [] :=
  List.filterMap_eq_nil_iff.2 fun id hid => if_pos (h id (mem_banksOf.1 hid))

/-- The block drives only what a granted CPU and the memory leave to it: strobes, the address lines, and the data lines while
RD is not driven. -/
structure Quiet (p : Params) (e : Expanders) : Prop where
  ctrl : ~~~0x1E#8 &&& drives p e (bankOf p .ctrl) = 0#8
  data : drives p e (bankOf p .data) = 0#8 ∨ 0x02#8 &&& drives p e (bankOf p .ctrl) = 0#8
  pull : (bankRegs e (bankOf p .ctrl)).gppu = 0xFF#8
  others : ∀ id, chipPresent p.numChips id.chip = true → id ∉ restoreOrder p → drives p e id = 0#8

theorem contended_block {b o m : Byte} (ho : o = 0#8) (h : b &&& m = 0#8) : contended b o m = 0#8 := by
  subst ho
  simp [contended, h]

/-- A granted CPU contends with nothing that the block drives then. -/
theorem Quiet.contentionEvents {s : State} {d : Draw} (h : Quiet s.params s.chips) (hw : Wired s.params)
    (hg : s.cpu.granted = true) : contentionEvents s d = [] := by
  refine contentionEvents_nil fun id hp => ?_
  unfold bankContention
  split
  next hid =>
    refine contended_block (dataOutside_granted hw hg) ?_
    rcases h.data with hd | hrd
    · rw [hid, blockDrive_eq, hd, BitVec.zero_and]
    · rw [memoryDrive, isReadCycle_of_rd hw (strobesFree_of_granted hw hg h.pull d) hrd]
      exact BitVec.and_zero
  next hdata =>
    by_cases hctrl : id = bankOf s.params .ctrl
    · subst hctrl
      have hout := outsideDrive_ctrl_granted hw hg d (k := 0x1E#8) rfl
      have hblock : blockDrive s (bankOf s.params .ctrl) &&& 0x1E#8 = blockDrive s (bankOf s.params .ctrl) := by
        have hc := h.ctrl
        rw [blockDrive_eq]
        generalize drives s.params s.chips (bankOf s.params .ctrl) = x at hc ⊢
        revert x
        decide
      simp [contended, and_zero_of_sub hblock hout]
    · by_cases hother : id ∈ restoreOrder s.params
      · simp only [restoreOrder, List.mem_cons, List.not_mem_nil, or_false, hctrl, hdata, false_or] at hother
        rcases hother with rfl | rfl
        · exact contended_block (outsideDrive_granted hw hg d (.inr (.inl rfl))) BitVec.and_zero
        · exact contended_block (outsideDrive_granted hw hg d (.inl rfl)) BitVec.and_zero
      · simp [contended, blockDrive_eq, h.others id hp hother]

/-- An action between two registers that contend with nothing: the grant is kept, nothing contends, and the memory is as the
bus was observed. -/
theorem BusStep.quiet {a : Action} {s n t : State} (h : BusStep a s n t) (ha : a.SparesGrant) (hg : Granted s)
    (hs : Quiet s.params s.chips) (hn : Quiet n.params n.chips) :
    Granted n ∧ Granted t ∧ n.mem = s.mem ∧ t.history.filter isFault = s.history.filter isFault := by
  obtain ⟨hgn, hmem⟩ := h.granted ha hg
  have hgranted : (busBetween (drawAt s 0) (dropDraw s)).cpu.granted = true := by
    simp [busBetween, cpuMoves, hg.cpu, nextGranted_of_granted hg]
  have hbefore : contentionEvents (busBetween (drawAt s 0) (dropDraw s)) (drawBetween (drawAt s 0)) = [] :=
    Quiet.contentionEvents (by simpa [busBetween, cpuMoves] using hs) (by simpa [busBetween, cpuMoves] using hg.wired)
      hgranted
  refine ⟨hgn, h.granted_after hgn, hmem, ?_⟩
  rw [h.faults, hbefore, hn.contentionEvents hgn.wired hgn.cpu, List.append_nil, List.append_nil]

/-! ## The registers of a stage -/

/-- The expander registers that no transaction changes: every chip decodes, the pull-ups are on, no polarity is inverted, and
no bank off the bus drives anything. -/
structure Clean (p : Params) (e : Expanders) : Prop where
  decoding : Decoding p e
  pull : ∀ id, chipPresent p.numChips id.chip = true → (bankRegs e id).gppu = 0xFF#8
  polarity : ∀ id, chipPresent p.numChips id.chip = true → (bankRegs e id).ipol = 0x00#8
  others : ∀ id, chipPresent p.numChips id.chip = true → id ∉ restoreOrder p → drives p e id = 0#8

/-- An action of a stage: a completed one that writes no register but the drive registers of bank `id`, and makes no lines
outputs but those of `m`. -/
def Action.On (p : Params) (id : BankId) (m : Byte) : Action → Prop
  | .write c r v => c = id.chip ∧ (r = .olat id.bank ∨ (r = .iodir id.bank ∧ ~~~m &&& outputBits p v = 0#8))
  | .read _ _ => True
  | .cycle _ => True
  | _ => False

/-- The registers in a stage on bank `id`: what is clean stays so, the other banks are as at its begin, and the bank drives
lines of `m` only. -/
structure Stage (p : Params) (id : BankId) (m : Byte) (e0 e : Expanders) : Prop where
  clean : Clean p e
  rest : ∀ id', id' ≠ id → bankRegs e id' = bankRegs e0 id'
  within : ~~~m &&& drives p e id = 0#8

theorem Action.On.sparesGrant {p : Params} {id : BankId} {m : Byte} {a : Action} (h : a.On p id m) : a.SparesGrant := by
  cases a <;> trivial

section
variable {p : Params} {id id' : BankId} {m : Byte} {a : Action}

theorem Action.On.proper (h : a.On p id m) (hp : chipPresent p.numChips id.chip = true) : a.Proper p := by
  cases a
  case write c r v =>
    obtain ⟨rfl, rfl | ⟨rfl, -⟩⟩ := h
    · exact ⟨hp, nofun⟩
    · exact ⟨hp, nofun⟩
  all_goals trivial

/-- An action of a stage keeps the pull-ups and polarities, and its bank's drive within the mask. -/
theorem Action.On.onBank_self (h : a.On p id m) {x : BankRegs} (hx : ~~~m &&& outputBits p x.iodir = 0#8) :
    ~~~m &&& outputBits p (a.onBank id x).iodir = 0#8 ∧ (a.onBank id x).gppu = x.gppu ∧ (a.onBank id x).ipol = x.ipol := by
  cases a
  case write c r v =>
    obtain ⟨rfl, rfl | ⟨rfl, hv⟩⟩ := h
    · simpa [Action.onBank, writeBankRegs] using hx
    · simpa [Action.onBank, writeBankRegs] using hv
  case failWrite => exact h.elim
  all_goals exact ⟨hx, rfl, rfl⟩

theorem Action.On.onBank_other (h : a.On p id m) (hne : id' ≠ id) (x : BankRegs) : a.onBank id' x = x := by
  cases a
  case write c r v =>
    have hb : id'.chip = id.chip → id'.bank ≠ id.bank := by
      intro hc hk
      cases id; cases id'
      simp_all
    obtain ⟨rfl, rfl | ⟨rfl, -⟩⟩ := h <;> simp +contextual [Action.onBank, writeBankRegs, hb]
  case failWrite => exact h.elim
  all_goals rfl

theorem Stage.chips {e0 e : Expanders} (h : Stage p id m e0 e) (ha : a.On p id m) (hb : BusBanks p)
    (hid : id ∈ restoreOrder p) : Stage p id m e0 (a.chips p e) := by
  have hp := mem_restoreOrder_present hb hid
  have hprop := ha.proper hp
  have hregs := bankRegs_chips h.clean.decoding hprop
  obtain ⟨hd, hg, hi⟩ := ha.onBank_self h.within
  have hself : ∀ x, (bankRegs (a.chips p e) x).gppu = (bankRegs e x).gppu ∧
      (bankRegs (a.chips p e) x).ipol = (bankRegs e x).ipol := fun x => by
    rw [hregs]
    by_cases hx : x = id
    · subst hx; exact ⟨hg, hi⟩
    · rw [ha.onBank_other hx]; exact ⟨rfl, rfl⟩
  refine ⟨⟨h.clean.decoding.chips hprop, fun x hx => (hself x).1.trans (h.clean.pull x hx),
    fun x hx => (hself x).2.trans (h.clean.polarity x hx), fun x hx hn => ?_⟩, fun x hx => ?_, ?_⟩
  · rw [drives, hregs, ha.onBank_other (by rintro rfl; exact hn hid)]
    exact h.clean.others x hx hn
  · rw [hregs, ha.onBank_other hx, h.rest x hx]
  · rw [drives, hregs]
    exact hd

theorem on_writeBankActs {v k : Byte} (hk : ~~~m &&& k = 0#8) : ∀ a ∈ writeBankActs p id v k, a.On p id m := by
  simp only [writeBankActs]
  split <;> simp [Action.On, outputBits_dirVal, hk]

theorem on_readBankActs (v : Byte) : ∀ a ∈ readBankActs p id v, a.On p id m := by
  simp [readBankActs, Action.On]

theorem on_restoreActs : ∀ a ∈ restoreActs p id, a.On p id m := by
  simp [restoreActs, Action.On]

theorem on_cycle (e : Event) : ∀ a ∈ [Action.cycle e], a.On p id m := by simp [Action.On]

theorem on_append {as bs : List Action} (ha : ∀ a ∈ as, a.On p id m) (hb : ∀ a ∈ bs, a.On p id m) :
    ∀ a ∈ as ++ bs, a.On p id m := fun a h => (List.mem_append.1 h).elim (ha a) (hb a)

theorem on_strobeRuns {e : Option Event} {as : List Action} (h : as ∈ strobeRuns p m e) :
    ∀ a ∈ as, a.On p (bankOf p .ctrl) m := by
  have hm : ~~~m &&& m = 0#8 := by simp
  have he : ∀ a ∈ eventActs e, a.On p (bankOf p .ctrl) m := by cases e <;> simp [eventActs, Action.On]
  simp only [strobeRuns] at h
  split at h
  · obtain rfl := List.mem_singleton.1 h
    exact on_append (on_writeBankActs hm) he
  · simp only [List.mem_cons, List.not_mem_nil, or_false] at h
    rcases h with rfl | rfl
    · exact on_append (by simp [Action.On, outputBits_dirVal]) he
    · exact on_append (on_append (by simp [Action.On, outputBits_dirVal]) he) (by simp [Action.On])

end

/-! ## A stage of a run -/

/-- The state at the end of a stage of a granted bus: nothing has contended, and the memory is in relation `R` to what it was. -/
structure StageEnd (p : Params) (id : BankId) (m : Byte) (R : List Host.Cell → List Host.Cell → Prop) (s t : State) : Prop where
  params : t.params = p
  granted : Granted t
  stage : Stage p id m s.chips t.chips
  faults : t.history.filter isFault = s.history.filter isFault
  mem : R s.mem t.mem

/-- What a stage asks for: nothing contends while it lasts, and a bus observed in it changes the memory as `R` says. -/
structure StageRule (p : Params) (id : BankId) (m : Byte) (R : List Host.Cell → List Host.Cell → Prop) (e0 : Expanders) :
    Prop where
  bank : id ∈ restoreOrder p
  quiet : ∀ e, Stage p id m e0 e → Quiet p e
  refl : ∀ x, R x x
  trans : ∀ x y z, R x y → R y z → R x z
  observe : ∀ n d, n.params = p → Granted n → Stage p id m e0 n.chips → R n.mem (memoryNow d n)

section
variable {p : Params} {id : BankId} {m : Byte} {R : List Host.Cell → List Host.Cell → Prop} {s t u : State}

theorem StageEnd.step {a : Action} (hr : StageRule p id m R s.chips) (hb : BusBanks p) (h : StageEnd p id m R s t)
    (ha : a.On p id m) (hs : a.Step t u) : StageEnd p id m R s u ∧
      (a.isPort = true → ∃ n d, n.params = p ∧ Granted n ∧ n.chips = u.chips ∧ u.mem = memoryNow d n) := by
  cases hp : a.isPort with
  | false =>
    have hw := hs.entry hp
    exact ⟨⟨hw.params.trans h.params, hw.granted h.granted, hw.chips ▸ h.stage, hw.faults.trans h.faults, hw.mem ▸ h.mem⟩,
      nofun⟩
  | true =>
    obtain ⟨n, hn⟩ := hs.bus hp
    have hpn : n.params = p := hn.params.trans h.params
    have hst : Stage p id m s.chips n.chips := by
      rw [hn.chips, h.params]
      exact h.stage.chips ha hb hr.bank
    obtain ⟨hgn, hgt, hmem, hfaults⟩ := hn.quiet ha.sparesGrant h.granted (h.params ▸ hr.quiet _ h.stage)
      (hpn ▸ hr.quiet _ hst)
    refine ⟨⟨hn.params_after.trans h.params, hgt, hn.chips_after ▸ hst, hfaults.trans h.faults, ?_⟩,
      fun _ => ⟨n, drawAt t 0, hpn, hgn, hn.chips_after.symm, hn.mem_after⟩⟩
    rw [hn.mem_after]
    exact hr.trans _ _ _ (hmem ▸ h.mem) (hr.observe n _ hpn hgn hst)

/-- A stage of a run. When it performs a port action, the bus was last observed with the registers it leaves. -/
theorem Path.stage {acts : List Action} (hr : StageRule p id m R s.chips) (hb : BusBanks p) (h : Path acts s t)
    (ha : ∀ a ∈ acts, a.On p id m) (hp : s.params = p) (hg : Granted s) (hs : Stage p id m s.chips s.chips) :
    StageEnd p id m R s t ∧ ((∃ a ∈ acts, a.isPort = true) →
      ∃ n d, n.params = p ∧ Granted n ∧ n.chips = t.chips ∧ t.mem = memoryNow d n) := by
  induction h with
  | same hw => exact ⟨⟨hw.params.trans hp, hw.granted hg, hw.chips ▸ hs, hw.faults, hw.mem ▸ hr.refl _⟩, by simp⟩
  | @step acts a s' m' t' h hstep ih =>
    obtain ⟨hend, hlast⟩ := ih hr (fun x hx => ha x (List.mem_append_left _ hx)) hp hg hs
    have hon := ha a (by simp)
    obtain ⟨hend', hlast'⟩ := hend.step hr hb hon hstep
    refine ⟨hend', fun hex => ?_⟩
    cases hport : a.isPort with
    | true => exact hlast' hport
    | false =>
      have hw := hstep.entry hport
      obtain ⟨x, hx, hxp⟩ := hex
      have hx' : x ∈ acts := by
        rcases List.mem_append.1 hx with h | h
        · exact h
        · obtain rfl := List.mem_singleton.1 h
          rw [hport] at hxp; cases hxp
      obtain ⟨n, d, h1, h2, h3, h4⟩ := hlast ⟨x, hx', hxp⟩
      exact ⟨n, d, h1, h2, h3.trans hw.chips.symm, hw.mem.trans h4⟩

end

end Sys2Proof.Machine

/-! # Transactions on a granted bus (R231 to R238, R45)

The stages of a transaction: the drives of address and data, the strobes, the data read, and the restores. -/

namespace Sys2Proof.Machine

theorem Wired.memRdMask {p : Params} (hw : Wired p) : memRdMask p = 0x12#8 := by simp [Machine.memRdMask, hw.mreq, hw.rd]
theorem Wired.memWrMask {p : Params} (hw : Wired p) : memWrMask p = 0x14#8 := by simp [Machine.memWrMask, hw.mreq, hw.wr]
theorem Wired.ioRdMask {p : Params} (hw : Wired p) : ioRdMask p = 0x0A#8 := by simp [Machine.ioRdMask, hw.ioreq, hw.rd]
theorem Wired.ioWrMask {p : Params} (hw : Wired p) : ioWrMask p = 0x0C#8 := by simp [Machine.ioWrMask, hw.ioreq, hw.wr]

/-! ## Relations of memories -/

/-- Only `a` may have changed, and then it has `v`. -/
def Stores (a : Addr) (v : Byte) (x y : List Host.Cell) : Prop :=
  ∀ k, memRead y k = memRead x k ∨ (k = a.toNat ∧ memRead y k = some v)

/-- Only `a` may have changed, and only if nothing had determined it. -/
def Fills (a : Addr) (x y : List Host.Cell) : Prop :=
  ∀ k, memRead y k = memRead x k ∨ (k = a.toNat ∧ memRead x k = none)

theorem stores_memWrite (a : Addr) (v : Byte) (x : List Host.Cell) : Stores a v x (memWrite x a.toNat v) := fun k => by
  by_cases hk : k = a.toNat
  · exact .inr ⟨hk, by rw [hk, memRead_memWrite_same]⟩
  · exact .inl (memRead_memWrite_other x v hk)

theorem fills_memWrite {a : Addr} {x : List Host.Cell} (h : memRead x a.toNat = none) (v : Byte) :
    Fills a x (memWrite x a.toNat v) := fun k => by
  by_cases hk : k = a.toNat
  · exact .inr ⟨hk, by rw [hk, h]⟩
  · exact .inl (memRead_memWrite_other x v hk)

theorem Stores.trans {a : Addr} {v : Byte} {x y z : List Host.Cell} (h : Stores a v x y) (k : Stores a v y z) :
    Stores a v x z := fun i => by
  rcases k i with hk | hk
  · exact (h i).imp (hk.trans ·) fun hi => ⟨hi.1, hk.trans hi.2⟩
  · exact .inr hk

theorem Fills.trans {a : Addr} {x y z : List Host.Cell} (h : Fills a x y) (k : Fills a y z) : Fills a x z := fun i => by
  rcases k i with hk | ⟨hi, hk⟩
  · exact (h i).imp (hk.trans ·) id
  · exact (h i).elim (fun hx => .inr ⟨hi, hx ▸ hk⟩) .inr

theorem Fills.keeps {a : Addr} {x y : List Host.Cell} (h : Fills a x y) {k : Nat} {v : Byte} (hk : memRead x k = some v) :
    memRead y k = some v := by
  rcases h k with h | ⟨-, h⟩
  · exact h.trans hk
  · rw [hk] at h; cases h

/-! ## What each stage asks for -/

section
variable {p : Params} {e0 e : Expanders} {id : BankId} {m : Byte} {a : Addr}

theorem stage_quiet (hb : BusBanks p) (hq : Quiet p e0)
    (hctrl : id = bankOf p .ctrl →
      ~~~0x1E#8 &&& ~~~m = ~~~0x1E#8 ∧ (drives p e0 (bankOf p .data) = 0#8 ∨ 0x02#8 &&& ~~~m = 0x02#8))
    (hdata : id = bankOf p .data → m = 0#8 ∨ 0x02#8 &&& drives p e0 (bankOf p .ctrl) = 0#8)
    (h : Stage p id m e0 e) : Quiet p e := by
  have hsame : ∀ id', id' ≠ id → drives p e id' = drives p e0 id' := fun id' hne => by rw [drives, drives, h.rest id' hne]
  have hpull := h.clean.pull _ (hb.present .ctrl (by simp))
  by_cases hidc : id = bankOf p .ctrl
  · obtain ⟨hm, hd⟩ := hctrl hidc
    have hwithin := hidc ▸ h.within
    refine ⟨and_zero_of_sub hm hwithin, ?_, hpull, h.clean.others⟩
    rw [hsame _ (by rw [hidc]; exact hb.data_ctrl)]
    exact hd.imp_right fun hm => and_zero_of_sub hm hwithin
  · have hc := hsame _ (Ne.symm hidc)
    refine ⟨by rw [hc]; exact hq.ctrl, ?_, hpull, h.clean.others⟩
    rw [hc]
    by_cases hidd : id = bankOf p .data
    · refine (hdata hidd).imp_left fun hm => ?_
      have hwithin := h.within
      rw [hm, hidd] at hwithin
      exact (allOnes_and_byte _).symm.trans hwithin
    · rw [hsame _ (Ne.symm hidd)]
      exact hq.data

theorem strobesFree_of_clean {n : State} (hb : BusBanks n.params) (hg : Granted n) (h : Clean n.params n.chips) (d : Draw) :
    StrobesFree n d := strobesFree_of_granted hg.wired hg.cpu (h.pull _ (hb.present .ctrl (by simp))) d

/-- A stage in which MREQ is not driven leaves the memory as it is. -/
theorem stageRule_noMreq (hb : BusBanks p) (hid : id ∈ restoreOrder p)
    (hquiet : ∀ e, Stage p id m e0 e → Quiet p e)
    (hmreq : ∀ e, Stage p id m e0 e → 0x10#8 &&& drives p e (bankOf p .ctrl) = 0#8) : StageRule p id m Eq e0 where
  bank := hid
  quiet := hquiet
  refl := fun _ => rfl
  trans := fun _ _ _ => Eq.trans
  observe := fun n d hp hg hs => by
    subst hp
    exact (memoryNow_of_mreq hg.wired (strobesFree_of_clean hb hg hs.clean d) (hmreq _ hs)).symm

theorem AddrHeld.stage (hb : BusBanks p) (h : AddrHeld p e0 a) (hs : Stage p id m e0 e)
    (hid : id = bankOf p .ctrl ∨ id = bankOf p .data) : AddrHeld p e a := by
  have hlo : bankRegs e (bankOf p .addrLo) = bankRegs e0 (bankOf p .addrLo) :=
    hs.rest _ (by rcases hid with rfl | rfl; exacts [hb.lo_ctrl, hb.lo_data])
  have hhi : bankRegs e (bankOf p .addrHi) = bankRegs e0 (bankOf p .addrHi) :=
    hs.rest _ (by rcases hid with rfl | rfl; exacts [hb.hi_ctrl, hb.hi_data])
  constructor
  · rw [drives, hlo]; exact h.lo
  · rw [hlo]; exact h.loLatch
  · rw [drives, hhi]; exact h.hi
  · rw [hhi]; exact h.hiLatch

theorem DataHeld.stage {v : Byte} (hb : BusBanks p) (h : DataHeld p e0 v) (hs : Stage p (bankOf p .ctrl) m e0 e) :
    DataHeld p e v := by
  have hdata : bankRegs e (bankOf p .data) = bankRegs e0 (bankOf p .data) := hs.rest _ hb.data_ctrl
  exact ⟨by rw [drives, hdata]; exact h.drive, by rw [hdata]; exact h.latch⟩

theorem ctrl_mem_restoreOrder : bankOf p .ctrl ∈ restoreOrder p := bankOf_mem_restoreOrder (by simp)

theorem data_mem_restoreOrder : bankOf p .data ∈ restoreOrder p := bankOf_mem_restoreOrder (by simp)

/-- The strobes of `WRITE_MEM`: the byte held is stored, or nothing. -/
theorem stageRule_memWrite {v : Byte} (hb : BusBanks p) (hq : Quiet p e0) (ha : AddrHeld p e0 a) (hv : DataHeld p e0 v) :
    StageRule p (bankOf p .ctrl) 0x14#8 (Stores a v) e0 where
  bank := ctrl_mem_restoreOrder
  quiet := fun _ => stage_quiet hb hq (fun _ => ⟨rfl, .inr rfl⟩) fun h => (hb.data_ctrl h.symm).elim
  refl := fun _ _ => .inl rfl
  trans := fun _ _ _ => Stores.trans
  observe := fun n d hp hg hs => by
    subst hp
    rcases memoryNow_of_write hg.wired hg.cpu (strobesFree_of_clean hb hg hs.clean d) (ha.stage hb hs (.inl rfl))
      (hv.stage hb hs) hs.within with h | h
    · exact fun _ => .inl (by rw [h])
    · rw [h]; exact stores_memWrite a v _

/-- The strobes of `READ_MEM`: a byte that nothing had determined may be. -/
theorem stageRule_memRead (hb : BusBanks p) (hq : Quiet p e0) (ha : AddrHeld p e0 a)
    (hv : drives p e0 (bankOf p .data) = 0#8) : StageRule p (bankOf p .ctrl) 0x12#8 (Fills a) e0 where
  bank := ctrl_mem_restoreOrder
  quiet := fun _ => stage_quiet hb hq (fun _ => ⟨rfl, .inl hv⟩) fun h => (hb.data_ctrl h.symm).elim
  refl := fun _ _ => .inl rfl
  trans := fun _ _ _ => Fills.trans
  observe := fun n d hp hg hs => by
    subst hp
    rcases memoryNow_of_read hg.wired hg.cpu (strobesFree_of_clean hb hg hs.clean d) (ha.stage hb hs (.inl rfl))
      hs.within with h | ⟨hn, h⟩
    · exact fun _ => .inl (by rw [h])
    · rw [h]; exact fills_memWrite hn _

/-- The read of the data bank under the strobes of `READ_MEM`. -/
theorem stageRule_memReadData (hb : BusBanks p) (hq : Quiet p e0) (ha : AddrHeld p e0 a)
    (hm : ~~~0x12#8 &&& drives p e0 (bankOf p .ctrl) = 0#8) : StageRule p (bankOf p .data) 0#8 (Fills a) e0 where
  bank := data_mem_restoreOrder
  quiet := fun _ => stage_quiet hb hq (fun h => (hb.data_ctrl h).elim) fun _ => .inl rfl
  refl := fun _ _ => .inl rfl
  trans := fun _ _ _ => Fills.trans
  observe := fun n d hp hg hs => by
    subst hp
    have hctrl : drives n.params n.chips (bankOf n.params .ctrl) = drives n.params e0 (bankOf n.params .ctrl) := by
      rw [drives, drives, hs.rest _ hb.data_ctrl.symm]
    rcases memoryNow_of_read (d := d) hg.wired hg.cpu (strobesFree_of_clean hb hg hs.clean d)
      (ha.stage hb hs (.inr rfl)) (by rw [blockDrive_eq, hctrl, hm]) with h | ⟨hn, h⟩
    · exact fun _ => .inl (by rw [h])
    · rw [h]; exact fills_memWrite hn _

/-- The strobes of `READ_IO` and `WRITE_IO`. -/
theorem stageRule_io (hb : BusBanks p) (hq : Quiet p e0) (hm : ~~~0x0E#8 &&& ~~~m = ~~~0x0E#8)
    (hd : drives p e0 (bankOf p .data) = 0#8 ∨ 0x02#8 &&& ~~~m = 0x02#8) : StageRule p (bankOf p .ctrl) m Eq e0 := by
  have hsub : ∀ k, k &&& ~~~0x0E#8 = k → k &&& ~~~m = k := fun k hk => by rw [← hk, BitVec.and_assoc, hm]
  exact stageRule_noMreq hb ctrl_mem_restoreOrder
    (fun _ => stage_quiet hb hq (fun _ => ⟨hsub _ rfl, hd⟩) fun h => (hb.data_ctrl h.symm).elim)
    fun _ hs => and_zero_of_sub (hsub 0x10#8 rfl) hs.within

/-- The read of the data bank under the strobes of `READ_IO`. -/
theorem stageRule_ioReadData (hb : BusBanks p) (hq : Quiet p e0) (hm : 0x10#8 &&& drives p e0 (bankOf p .ctrl) = 0#8) :
    StageRule p (bankOf p .data) 0#8 Eq e0 :=
  stageRule_noMreq hb data_mem_restoreOrder
    (fun _ => stage_quiet hb hq (fun h => (hb.data_ctrl h).elim) fun _ => .inl rfl)
    fun e hs => by rw [drives, hs.rest _ hb.data_ctrl.symm]; exact hm

end

/-! ## Actions with the control bank undriven -/

/-- A granted bus with clean registers, on which the block drives no strobe. -/
structure Calm (p : Params) (s : State) : Prop where
  params : s.params = p
  granted : Granted s
  clean : Clean p s.chips
  ctrl : drives p s.chips (bankOf p .ctrl) = 0#8

/-- An action that drives no strobe: on a bus-facing bank, or on a pin other than those of BUSRQ and RESET. -/
def Action.Calm (p : Params) (a : Action) : Prop :=
  (∃ id ∈ restoreOrder p, a.On p id (if id = bankOf p .ctrl then 0#8 else 0xFF#8)) ∨
    (a.SparesGrant ∧ ∀ e, a.chips p e = e)

section
variable {p : Params} {s t u : State}

theorem Action.Calm.sparesGrant {a : Action} (ha : a.Calm p) : a.SparesGrant := by
  rcases ha with ⟨id, -, ha⟩ | ⟨ha, -⟩
  · exact ha.sparesGrant
  · exact ha

theorem Calm.sameWorld (h : Calm p s) (hw : SameWorld s t) : Calm p t :=
  ⟨hw.params.trans h.params, hw.granted h.granted, hw.chips ▸ h.clean, hw.chips ▸ h.ctrl⟩

variable (hb : BusBanks p)
include hb

theorem Calm.quiet (h : Calm p s) : Quiet p s.chips :=
  ⟨by rw [h.ctrl]; rfl, .inr (by rw [h.ctrl]; rfl), h.clean.pull _ (hb.present .ctrl (by simp)), h.clean.others⟩

/-- The registers after a calm action. -/
theorem calm_chips {e : Expanders} (hc : Clean p e) (hctrl : drives p e (bankOf p .ctrl) = 0#8) {a : Action} (ha : a.Calm p) :
    Clean p (a.chips p e) ∧ drives p (a.chips p e) (bankOf p .ctrl) = 0#8 := by
  rcases ha with ⟨id, hid, ha⟩ | ⟨-, ha⟩
  · have hstage : Stage p id (if id = bankOf p .ctrl then 0#8 else 0xFF#8) e e := by
      refine ⟨hc, fun _ _ => rfl, ?_⟩
      split
      next h => rw [h, hctrl]; rfl
      next => exact BitVec.zero_and
    have hnext := hstage.chips ha hb hid
    refine ⟨hnext.clean, ?_⟩
    by_cases h : id = bankOf p .ctrl
    · have hw := hnext.within
      rw [if_pos h, h] at hw
      exact (allOnes_and_byte _).symm.trans hw
    · rw [drives, hnext.rest _ (Ne.symm h)]; exact hctrl
  · rw [ha]; exact ⟨hc, hctrl⟩

/-- A run of calm actions contends with nothing and leaves the memory as it is. -/
theorem Path.calm {acts : List Action} (h : Path acts s t) (ha : ∀ a ∈ acts, a.Calm p) (hs : Calm p s) :
    Calm p t ∧ t.history.filter isFault = s.history.filter isFault ∧ t.mem = s.mem := by
  induction h with
  | same hw => exact ⟨hs.sameWorld hw, hw.faults, hw.mem⟩
  | @step acts a s' m' t' h hstep ih =>
    obtain ⟨hm, hfaults, hmem⟩ := ih (fun x hx => ha x (List.mem_append_left _ hx)) hs
    have hcalm := ha a (by simp)
    cases hport : a.isPort with
    | false =>
      have hw := hstep.entry hport
      exact ⟨hm.sameWorld hw, hw.faults.trans hfaults, hw.mem.trans hmem⟩
    | true =>
      obtain ⟨n, hn⟩ := hstep.bus hport
      have hpn : n.params = p := hn.params.trans hm.params
      obtain ⟨hclean, hctrl⟩ := calm_chips hb hm.clean hm.ctrl hcalm
      rw [← hm.params, ← hn.chips, hm.params] at hclean hctrl
      have hqn : Quiet p n.chips :=
        ⟨by rw [hctrl]; rfl, .inr (by rw [hctrl]; rfl), hclean.pull _ (hb.present .ctrl (by simp)), hclean.others⟩
      obtain ⟨hgn, hgt, hmn, hfn⟩ := hn.quiet hcalm.sparesGrant hm.granted (by rw [hm.params]; exact hm.quiet hb)
        (by rw [hpn]; exact hqn)
      refine ⟨⟨hn.params_after.trans hm.params, hgt, hn.chips_after ▸ hclean, hn.chips_after ▸ hctrl⟩, hfn.trans hfaults, ?_⟩
      rw [hn.mem_after, memoryNow_of_mreq hgn.wired
        (strobesFree_of_granted hgn.wired hgn.cpu (by rw [hpn]; exact hqn.pull) _)
        (by rw [blockDrive_eq, hpn, hctrl]; rfl), hmn, hmem]

end

end Sys2Proof.Machine

/-! # What each transaction does to a granted bus (R231 to R238, R45)

From a bus at rest, by the run of each transaction: nothing contends, the bus is at rest again, and the memory is stored to,
filled in, or kept. -/

namespace Sys2Proof.Machine

section
variable {p : Params} {id : BankId} (hid : id ∈ restoreOrder p)
include hid

theorem calm_of_on {as : List Action} (hne : id ≠ bankOf p .ctrl) (h : ∀ a ∈ as, a.On p id 0xFF#8) :
    ∀ a ∈ as, a.Calm p := fun a ha => .inl ⟨id, hid, by rw [if_neg hne]; exact h a ha⟩

theorem calm_writeBankActs (hne : id ≠ bankOf p .ctrl) (v m : Byte) : ∀ a ∈ writeBankActs p id v m, a.Calm p :=
  calm_of_on hid hne (on_writeBankActs (by simp))

theorem calm_readBankActs (v : Byte) : ∀ a ∈ readBankActs p id v, a.Calm p := fun a ha =>
  .inl ⟨id, hid, on_readBankActs v a ha⟩

theorem calm_restoreActs : ∀ a ∈ restoreActs p id, a.Calm p := fun a ha => .inl ⟨id, hid, on_restoreActs a ha⟩

end

section
variable {p : Params}

theorem calm_append {as bs : List Action} (ha : ∀ a ∈ as, a.Calm p) (hb : ∀ a ∈ bs, a.Calm p) :
    ∀ a ∈ as ++ bs, a.Calm p := fun a h => (List.mem_append.1 h).elim (ha a) (hb a)

theorem calm_restoresActs {ids : List BankId} (h : ∀ id ∈ ids, id ∈ restoreOrder p) :
    ∀ a ∈ restoresActs p ids, a.Calm p := fun a ha => by
  obtain ⟨id, hid, ha⟩ := List.mem_flatMap.1 ha
  exact calm_restoreActs (h id hid) a ha

end

section
variable {p : Params} {s t : State} {acts : List Action}

theorem Path.clean_regs (h : Path acts s t) (hp : s.params = p) (hc : Clean p s.chips) (ha : ∀ a ∈ acts, a.Proper p)
    (id : BankId) : bankRegs t.chips id = bankAfter id acts (bankRegs s.chips id) := by
  subst hp
  rw [h.ended.chips, bankRegs_foldl hc.decoding ha]

end

/-- A granted bus on which the block drives nothing. -/
structure AtRest (p : Params) (s : State) : Prop extends Calm p s where
  undriven : ∀ id ∈ restoreOrder p, drives p s.chips id = 0#8

/-- The state after a transaction: at rest, with no fault recorded, and the memory in relation `R` to what it was. -/
structure Transacted (p : Params) (R : List Host.Cell → List Host.Cell → Prop) (s t : State) : Prop where
  rest : AtRest p t
  faults : t.history.filter isFault = s.history.filter isFault
  mem : R s.mem t.mem

theorem drives_madeInput (p : Params) (x : BankRegs) : outputBits p (madeInput p x).iodir = 0#8 := outputBits_allIn p

theorem port_of_strobeRuns {p : Params} {m : Byte} {e : Option Event} {as : List Action} (has : as ∈ strobeRuns p m e) :
    ∃ a ∈ as, a.isPort = true := by
  refine ⟨.write (bankOf p .ctrl).chip (.iodir (bankOf p .ctrl).bank) (dirVal p m), ?_, rfl⟩
  cases hw : p.writeOrder with
  | latchFirst => simp [strobeRuns, writeBankActs, hw] at has; simp [has]
  | dirFirst => simp [strobeRuns, hw] at has; rcases has with rfl | rfl <;> simp

/-- The start of a stage on the control bank of a calm bus. -/
theorem Calm.stage {p : Params} {s : State} (h : Calm p s) (m : Byte) : Stage p (bankOf p .ctrl) m s.chips s.chips :=
  ⟨h.clean, fun _ _ => rfl, by rw [h.ctrl]; exact BitVec.and_zero⟩

section
variable {p : Params} {s t : State} (hb : BusBanks p)
include hb

/-- The cleanup of a transaction: the de-assert and the restore of the control bank under the rule of its strobes, then the
other restores on a calm bus. -/
theorem cleanup_path {m : Byte} {R : List Host.Cell → List Host.Cell → Prop} {ids : List BankId}
    (hr : StageRule p (bankOf p .ctrl) m R s.chips) (h : Path (cleanupActs p m (bankOf p .ctrl :: ids)) s t)
    (hids : ∀ id ∈ ids, id ∈ restoreOrder p) (hp : s.params = p) (hg : Granted s)
    (hs : Stage p (bankOf p .ctrl) m s.chips s.chips)
    (hrest : ∀ id ∈ restoreOrder p, id ∉ bankOf p .ctrl :: ids → drives p s.chips id = 0#8) : Transacted p R s t := by
  have hproper : ∀ a ∈ cleanupActs p m (bankOf p .ctrl :: ids), a.Proper p := by
    refine proper_append (proper_writeBankActs (hb.present .ctrl (by simp)) _ _) (proper_restoresActs fun id hid => ?_)
    rcases List.mem_cons.1 hid with rfl | hid
    · exact hb.present .ctrl (by simp)
    · exact mem_restoreOrder_present hb (hids id hid)
  have hregs := h.clean_regs hp hs.clean hproper
  rw [cleanupActs, restoresActs, List.flatMap_cons, ← List.append_assoc] at h
  obtain ⟨n, hstage, hcalm⟩ := h.split
  obtain ⟨hend, -⟩ := hstage.stage hr hb (on_append (on_writeBankActs (by simp)) on_restoreActs) hp hg hs
  have hn : Calm p n := by
    refine ⟨hend.params, hend.granted, hend.stage.clean, ?_⟩
    rw [drives, hstage.clean_regs hp hs.clean (proper_append (proper_writeBankActs (hb.present .ctrl (by simp)) _ _)
      (proper_restoreActs (hb.present .ctrl (by simp)))), bankAfter_append, bankAfter_restore, if_pos rfl]
    exact drives_madeInput p _
  obtain ⟨ht, hfaults, hmem⟩ := hcalm.calm hb (calm_restoresActs hids) hn
  refine ⟨⟨ht, fun id hid => ?_⟩, hfaults.trans hend.faults, by rw [hmem]; exact hend.mem⟩
  rw [drives, hregs, bankAfter_cleanupActs]
  by_cases hmem : id ∈ bankOf p .ctrl :: ids
  · simp only [hmem, if_true]
    exact drives_madeInput p _
  · have hne : id ≠ bankOf p .ctrl := fun h => hmem (h ▸ List.mem_cons_self)
    simp only [hmem, hne, if_false]
    exact hrest id hid hmem

/-- After the drives of `WRITE_MEM` the address and the byte are held. -/
theorem writeMemDrives_path {a : Addr} {v : Byte} (hs : Calm p s) (h : Path (writeMemDrives p a v) s t) :
    Calm p t ∧ t.history.filter isFault = s.history.filter isFault ∧ t.mem = s.mem ∧ AddrHeld p t.chips a ∧
      DataHeld p t.chips v := by
  have hcalm : ∀ x ∈ writeMemDrives p a v, x.Calm p :=
    calm_append (calm_append (calm_writeBankActs (bankOf_mem_restoreOrder (by simp)) hb.lo_ctrl _ _)
      (calm_writeBankActs (bankOf_mem_restoreOrder (by simp)) hb.hi_ctrl _ _))
      (calm_writeBankActs (bankOf_mem_restoreOrder (by simp)) hb.data_ctrl _ _)
  obtain ⟨ht, hfaults, hmem⟩ := h.calm hb hcalm hs
  have hregs := h.clean_regs hs.params hs.clean (proper_writeMemDrives hb a v)
  simp only [writeMemDrives, bankAfter_append, bankAfter_writeBank] at hregs
  refine ⟨ht, hfaults, hmem, ⟨?_, ?_, ?_, ?_⟩, ⟨?_, ?_⟩⟩ <;>
    simp [drives, hregs, hb.lo_hi, hb.lo_data, hb.hi_data, hb.lo_hi.symm, hb.lo_data.symm, hb.hi_data.symm,
      outputBits_dirVal]

/-- After the drives of `READ_MEM` the address is held. -/
theorem readMemDrives_path {a : Addr} (hs : Calm p s)
    (h : Path (writeBankActs p (bankOf p .addrLo) (addrLow a) 0xFF#8 ++
      writeBankActs p (bankOf p .addrHi) (addrHigh a) 0xFF#8) s t) :
    Calm p t ∧ t.history.filter isFault = s.history.filter isFault ∧ t.mem = s.mem ∧ AddrHeld p t.chips a ∧
      drives p t.chips (bankOf p .data) = drives p s.chips (bankOf p .data) := by
  have hcalm := calm_append (calm_writeBankActs (bankOf_mem_restoreOrder (by simp)) hb.lo_ctrl (addrLow a) 0xFF#8)
    (calm_writeBankActs (bankOf_mem_restoreOrder (by simp)) hb.hi_ctrl (addrHigh a) 0xFF#8)
  obtain ⟨ht, hfaults, hmem⟩ := h.calm hb hcalm hs
  have hregs := h.clean_regs hs.params hs.clean
    (proper_append (proper_drive hb (n := .addrLo) (by simp) _ _) (proper_drive hb (n := .addrHi) (by simp) _ _))
  simp only [bankAfter_append, bankAfter_writeBank] at hregs
  refine ⟨ht, hfaults, hmem, ⟨?_, ?_, ?_, ?_⟩, ?_⟩ <;>
    simp [drives, hregs, hb.lo_hi, hb.lo_hi.symm, hb.lo_data.symm, hb.hi_data.symm, outputBits_dirVal]

/-- The strobe assert drives the strobes low. -/
theorem strobed_regs {m : Byte} {e : Option Event} {as : List Action} (h : Path as s t) (hp : s.params = p)
    (hc : Clean p s.chips) (has : as ∈ strobeRuns p m e) :
    drives p t.chips (bankOf p .ctrl) = m ∧ (bankRegs t.chips (bankOf p .ctrl)).olat = ctrlValue p m := by
  cases e with
  | none =>
    obtain rfl := strobeRuns_none has
    rw [drives, h.clean_regs hp hc (proper_writeBankActs (hb.present .ctrl (by simp)) _ _), bankAfter_writeBank, if_pos rfl]
    exact ⟨outputBits_dirVal p m, rfl⟩
  | some e =>
    rw [drives, h.clean_regs hp hc (proper_strobeRuns (hb.present .ctrl (by simp)) has), bankAfter_strobeRuns has, if_pos rfl]
    exact ⟨outputBits_dirVal p m, rfl⟩

end

/-! ## What a read returns -/

theorem oneAnswers_of_decoding {p : Params} {e : Expanders} (h : Decoding p e) {c : ChipId}
    (hc : chipPresent p.numChips c = true) : oneAnswers p e c = true := by
  have hans : answers p e c = fun c' => decide (c' = c) := funext (answers_of_decoding h hc)
  rw [oneAnswers, hans]
  cases hn : p.numChips <;> cases c <;> simp_all [chipsOf, chipPresent]

/-- A read of a clean bank returns the levels of its lines (R44). -/
theorem gpioByte_clean {n : State} (h : Clean n.params n.chips) {id : BankId}
    (hid : chipPresent n.params.numChips id.chip = true) (d : Draw) : gpioByte n d id = bankLevels n d id := by
  rw [gpioByte, oneAnswers_of_decoding h.decoding hid, if_pos rfl, h.polarity id hid]
  exact BitVec.xor_zero

theorem granted_envMove {s : State} (h : Granted s) :
    Granted (envMove (drawAt s 0) (dropDraw s)) ∧ (envMove (drawAt s 0) (dropDraw s)).mem = s.mem := by
  have hnext := nextGranted_of_granted h (drawAt s 0)
  refine ⟨⟨by simpa using h.wired, by simpa using hnext, fun d => ?_, fun d => ?_⟩, ?_⟩
  · exact (lineActive_congr (by simp) (by simp) d).trans (h.busrq d)
  · exact (lineActive_congr (by simp) (by simp) d).trans (h.reset d)
  · simp [envMove, cpuMoves, hnext, h.cpu]

theorem dataBank_levels (n : State) (d : Draw) : bankLevels n d (bankOf n.params .data) = dataLevels n d := if_pos rfl

/-- Under the strobes of `READ_MEM` the data bank reads as the memory's byte under `SimMem`. -/
theorem read_of_memRead {p : Params} {s : State} {a : Addr} {v w : Byte} (hb : BusBanks p) (hp : s.params = p)
    (hg : Granted s) (hc : Clean p s.chips) (ha : AddrHeld p s.chips a) (hd : drives p s.chips (bankOf p .data) = 0#8)
    (hm : drives p s.chips (bankOf p .ctrl) = 0x12#8) (hl : 0x12#8 &&& (bankRegs s.chips (bankOf p .ctrl)).olat = 0#8)
    (hs : p.oracle = .simMem) (hw : memRead s.mem a.toNat = some w) (hr : (Action.read (bankOf p .data) v).Reads s) :
    v = w := by
  obtain ⟨hgn, hmem⟩ := granted_envMove hg
  have hr' : v = gpioByte (envMove (drawAt s 0) (dropDraw s)) (drawAt s 0) (bankOf p .data) := hr
  have hpn : (envMove (drawAt s 0) (dropDraw s)).params = p := by simpa using hp
  have hcn : (envMove (drawAt s 0) (dropDraw s)).chips = s.chips := by simp
  generalize envMove (drawAt s 0) (dropDraw s) = n at *
  subst hpn
  rw [← hcn] at hc ha hd hm hl
  have hf := strobesFree_of_clean hb hgn hc (drawAt s 0)
  have hk := busKind_memRead hgn.wired hf hm hl
  rw [gpioByte_clean hc (hb.present .data (by simp)), dataBank_levels,
    dataLevels_of_read hgn.wired hgn.cpu hd (by rw [hk]; rfl), answerByte, hk] at hr'
  simp only [memoryByte, hs, busAddress_of_held hgn.wired hgn.cpu ha, hmem, hw] at hr'
  exact hr'

/-! ## The memory transactions -/

section
variable {p : Params} {s t : State} (hb : BusBanks p)
include hb

/-- `WRITE_MEM` stores its byte at its address, and nothing else. -/
theorem writeMem_path {a : Addr} {v : Byte} {e : Option Event} {as : List Action} (hs : AtRest p s)
    (has : as ∈ strobeRuns p 0x14#8 e)
    (h : Path (writeMemDrives p a v ++ as ++ cleanupActs p 0x14#8 (restoreOrder p)) s t) :
    Transacted p (Stores a v) s t ∧ memRead t.mem a.toNat = some v := by
  obtain ⟨m2, h, hclean⟩ := h.split
  obtain ⟨m1, hdrive, hstrobe⟩ := h.split
  obtain ⟨hcalm, hfaults, hmem, haddr, hdata⟩ := writeMemDrives_path hb hs.toCalm hdrive
  obtain ⟨hend, hlast⟩ := hstrobe.stage (stageRule_memWrite hb (hcalm.quiet hb) haddr hdata) hb (on_strobeRuns has)
    hcalm.params hcalm.granted (hcalm.stage _)
  obtain ⟨hdrives, hlatch⟩ := strobed_regs hb hstrobe hcalm.params hcalm.clean has
  obtain ⟨n, d, rfl, hgn, hcn, hmn⟩ := hlast (port_of_strobeRuns has)
  have haddr' := haddr.stage hb hend.stage (.inl rfl)
  have hdata' := hdata.stage hb hend.stage
  have hquiet := stage_quiet hb (hcalm.quiet hb) (fun _ => ⟨rfl, .inr rfl⟩) (fun h => (hb.data_ctrl h.symm).elim) hend.stage
  have hstored : memRead m2.mem a.toNat = some v := by
    rw [hmn, memoryNow_memWrite hgn.wired hgn.cpu (strobesFree_of_clean hb hgn (by rw [hcn]; exact hend.stage.clean) d)
      (by rw [hcn]; exact haddr') (by rw [hcn]; exact hdata') (by rw [blockDrive_eq, hcn]; exact hdrives)
      (by rw [hcn, hlatch, hgn.wired.ctrlValue]; rfl), memRead_memWrite_same]
  have ht := cleanup_path hb (stageRule_memWrite hb hquiet haddr' hdata') hclean (by simp [restoreOrder]) hend.params
    hend.granted ⟨hend.stage.clean, fun _ _ => rfl, hend.stage.within⟩ (fun id hid hn => (hn hid).elim)
  refine ⟨⟨ht.rest, ht.faults.trans (hend.faults.trans hfaults), hmem ▸ hend.mem.trans ht.mem⟩, ?_⟩
  rcases ht.mem a.toNat with hk | ⟨-, hk⟩
  · exact hk.trans hstored
  · exact hk

/-- The data read under the strobes of `READ_MEM`, with its entry: the memory is filled in at most, and under `SimMem` the byte
read is the memory's. -/
theorem readData_path {a : Addr} {v : Byte} {e : Event} (hp : s.params = p) (hg : Granted s) (hc : Clean p s.chips)
    (hq : Quiet p s.chips) (ha : AddrHeld p s.chips a) (hd : drives p s.chips (bankOf p .data) = 0#8)
    (hm : drives p s.chips (bankOf p .ctrl) = 0x12#8) (hl : 0x12#8 &&& (bankRegs s.chips (bankOf p .ctrl)).olat = 0#8)
    (h : Path (readBankActs p (bankOf p .data) v ++ [.cycle e]) s t) :
    StageEnd p (bankOf p .data) 0#8 (Fills a) s t ∧
      (p.oracle = .simMem → ∀ w, memRead s.mem a.toNat = some w → v = w) := by
  have hr := stageRule_memReadData (a := a) hb hq ha (by rw [hm]; rfl)
  have hstart : Stage p (bankOf p .data) 0#8 s.chips s.chips := ⟨hc, fun _ _ => rfl, by rw [hd]; exact BitVec.and_zero⟩
  refine ⟨(h.stage hr hb (on_append (on_readBankActs v) (on_cycle e)) hp hg hstart).1, fun hs w hw => ?_⟩
  obtain ⟨m, hwrite, hrest⟩ := h.split (as := [_])
  obtain ⟨hend, -⟩ := hwrite.stage hr hb (by simp [Action.On]) hp hg hstart
  obtain ⟨m', hread, -⟩ := hrest.cons
  obtain ⟨k, hworld, hstep⟩ := hread.one
  obtain ⟨n, hn⟩ := hstep.bus rfl
  have hctrl : bankRegs m.chips (bankOf p .ctrl) = bankRegs s.chips (bankOf p .ctrl) := hend.stage.rest _ hb.data_ctrl.symm
  have hdata : drives p m.chips (bankOf p .data) = 0#8 := (allOnes_and_byte _).symm.trans hend.stage.within
  exact read_of_memRead (a := a) hb (hworld.params.trans hend.params) (hworld.granted hend.granted)
    (hworld.chips ▸ hend.stage.clean) (hworld.chips ▸ ha.stage hb hend.stage (.inr rfl)) (hworld.chips ▸ hdata)
    (by rw [hworld.chips, drives, hctrl]; exact hm) (by rw [hworld.chips, hctrl]; exact hl) hs
    (by rw [hworld.mem]; exact hend.mem.keeps hw) hn.reads

/-- `READ_MEM` fills in its address at most, and under `SimMem` it returns the memory's byte. -/
theorem readMem_path {a : Addr} {v : Byte} (hs : AtRest p s)
    (h : Path (readMemActs p a v ++ cleanupActs p (memRdMask p) (restoreOrder p)) s t) :
    Transacted p (Fills a) s t ∧ (p.oracle = .simMem → memRead t.mem a.toNat = some v) := by
  have hw : Wired p := hs.params ▸ hs.granted.wired
  simp only [readMemActs, hw.memRdMask] at h
  obtain ⟨m3, h, hclean⟩ := h.split
  rw [List.append_assoc] at h
  obtain ⟨m2, h, hread⟩ := h.split
  obtain ⟨m1, hdrive, hstrobe⟩ := h.split
  obtain ⟨hcalm, hfaults, hmem, haddr, hdata⟩ := readMemDrives_path hb hs.toCalm hdrive
  replace hdata := hdata.trans (hs.undriven _ data_mem_restoreOrder)
  have has : writeBankActs p (bankOf p .ctrl) (ctrlValue p 0x12#8) 0x12#8 ∈ strobeRuns p 0x12#8 none := by
    cases ho : p.writeOrder <;> simp [strobeRuns, writeBankActs, ho, eventActs]
  obtain ⟨hend, hlast⟩ := hstrobe.stage (stageRule_memRead hb (hcalm.quiet hb) haddr hdata) hb (on_strobeRuns has)
    hcalm.params hcalm.granted (hcalm.stage _)
  obtain ⟨hdrives, hlatch⟩ := strobed_regs hb hstrobe hcalm.params hcalm.clean has
  have haddr2 := haddr.stage hb hend.stage (.inl rfl)
  have hdata2 : drives p m2.chips (bankOf p .data) = 0#8 := by rw [drives, hend.stage.rest _ hb.data_ctrl]; exact hdata
  have hquiet2 := stage_quiet hb (hcalm.quiet hb) (fun _ => ⟨rfl, .inl hdata⟩) (fun h => (hb.data_ctrl h.symm).elim) hend.stage
  have hlow : 0x12#8 &&& (bankRegs m2.chips (bankOf p .ctrl)).olat = 0#8 := by rw [hlatch, hw.ctrlValue]; rfl
  obtain ⟨hend3, hvalue⟩ := readData_path hb hend.params hend.granted hend.stage.clean hquiet2 haddr2 hdata2 hdrives hlow hread
  have haddr3 := haddr2.stage hb hend3.stage (.inr rfl)
  have hdata3 : drives p m3.chips (bankOf p .data) = 0#8 := (allOnes_and_byte _).symm.trans hend3.stage.within
  have hctrl3 : bankRegs m3.chips (bankOf p .ctrl) = bankRegs m2.chips (bankOf p .ctrl) :=
    hend3.stage.rest _ hb.data_ctrl.symm
  have hquiet3 := stage_quiet hb hquiet2 (fun h => (hb.data_ctrl h).elim) (fun _ => .inl rfl) hend3.stage
  have ht := cleanup_path hb (stageRule_memRead hb hquiet3 haddr3 hdata3) hclean (by simp [restoreOrder]) hend3.params
    hend3.granted ⟨hend3.stage.clean, fun _ _ => rfl, by rw [drives, hctrl3]; exact hend.stage.within⟩
    (fun id hid hn => (hn hid).elim)
  refine ⟨⟨ht.rest, ht.faults.trans (hend3.faults.trans (hend.faults.trans hfaults)),
    hmem ▸ (hend.mem.trans hend3.mem).trans ht.mem⟩, fun hsim => ?_⟩
  obtain ⟨n, d, rfl, hgn, hcn, hmn⟩ := hlast (port_of_strobeRuns has)
  have hsome : memRead m2.mem a.toNat ≠ none := by
    rw [hmn]
    exact memoryNow_memRead hgn.wired hgn.cpu (strobesFree_of_clean hb hgn (by rw [hcn]; exact hend.stage.clean) d)
      (by rw [hcn]; exact haddr2) hsim (by rw [blockDrive_eq, hcn]; exact hdrives) (by rw [hcn]; exact hlow)
  obtain ⟨w, hw'⟩ := Option.ne_none_iff_exists'.1 hsome
  rw [ht.mem.keeps (hend3.mem.keeps hw'), hvalue hsim w hw']

/-! ## The I/O transactions and the probes -/

/-- `READ_IO` leaves the memory as it is. -/
theorem readIo_path {port v : Byte} (hs : AtRest p s)
    (h : Path (readIoActs p port v ++ cleanupActs p (ioRdMask p) [bankOf p .ctrl, bankOf p .data, bankOf p .addrLo]) s t) :
    Transacted p Eq s t := by
  have hw : Wired p := hs.params ▸ hs.granted.wired
  simp only [readIoActs, hw.ioRdMask] at h
  obtain ⟨m3, h, hclean⟩ := h.split
  rw [List.append_assoc] at h
  obtain ⟨m2, h, hread⟩ := h.split
  obtain ⟨m1, hdrive, hstrobe⟩ := h.split
  obtain ⟨hcalm, hfaults, hmem⟩ :=
    hdrive.calm hb (calm_writeBankActs (bankOf_mem_restoreOrder (by simp)) hb.lo_ctrl _ _) hs.toCalm
  have hregs1 := hdrive.clean_regs hs.params hs.clean (proper_drive hb (n := .addrLo) (by simp) _ _)
  simp only [bankAfter_writeBank] at hregs1
  have hdata : drives p m1.chips (bankOf p .data) = 0#8 := by
    rw [drives, hregs1, if_neg hb.lo_data.symm]; exact hs.undriven _ data_mem_restoreOrder
  have hhi : drives p m1.chips (bankOf p .addrHi) = 0#8 := by
    rw [drives, hregs1, if_neg hb.lo_hi.symm]; exact hs.undriven _ (bankOf_mem_restoreOrder (by simp))
  obtain ⟨hend, -⟩ := hstrobe.stage (stageRule_io hb (hcalm.quiet hb) rfl (.inl hdata)) hb
    (on_writeBankActs (by decide)) hcalm.params hcalm.granted (hcalm.stage 0x0A#8)
  have hdata2 : drives p m2.chips (bankOf p .data) = 0#8 := by rw [drives, hend.stage.rest _ hb.data_ctrl]; exact hdata
  have hquiet2 := stage_quiet hb (hcalm.quiet hb) (fun _ => ⟨rfl, .inl hdata⟩) (fun h => (hb.data_ctrl h.symm).elim) hend.stage
  obtain ⟨hend3, -⟩ := hread.stage (stageRule_ioReadData hb hquiet2 (and_zero_of_sub rfl hend.stage.within)) hb
    (on_append (on_readBankActs v) (on_cycle _)) hend.params hend.granted
    ⟨hend.stage.clean, fun _ _ => rfl, by rw [hdata2]; exact BitVec.and_zero⟩
  have hdata3 : drives p m3.chips (bankOf p .data) = 0#8 := (allOnes_and_byte _).symm.trans hend3.stage.within
  have hctrl3 : bankRegs m3.chips (bankOf p .ctrl) = bankRegs m2.chips (bankOf p .ctrl) :=
    hend3.stage.rest _ hb.data_ctrl.symm
  have hhi3 : drives p m3.chips (bankOf p .addrHi) = 0#8 := by
    rw [drives, hend3.stage.rest _ hb.hi_data, hend.stage.rest _ hb.hi_ctrl]; exact hhi
  have hquiet3 := stage_quiet hb hquiet2 (fun h => (hb.data_ctrl h).elim) (fun _ => .inl rfl) hend3.stage
  have ht := cleanup_path hb (stageRule_io hb hquiet3 rfl (.inl hdata3)) hclean (by simp [restoreOrder]) hend3.params
    hend3.granted ⟨hend3.stage.clean, fun _ _ => rfl, by rw [drives, hctrl3]; exact hend.stage.within⟩
    (by simp +contextual [restoreOrder, hhi3])
  exact ⟨ht.rest, ht.faults.trans (hend3.faults.trans (hend.faults.trans hfaults)),
    hmem.symm.trans (hend.mem.trans (hend3.mem.trans ht.mem))⟩

/-- `WRITE_IO` leaves the memory as it is. -/
theorem writeIo_path {port v : Byte} {e : Option Event} {as : List Action} (hs : AtRest p s)
    (has : as ∈ strobeRuns p 0x0C#8 e)
    (h : Path (writeIoDrives p port v ++ as ++ cleanupActs p 0x0C#8 [bankOf p .ctrl, bankOf p .data, bankOf p .addrLo]) s t) :
    Transacted p Eq s t := by
  obtain ⟨m2, h, hclean⟩ := h.split
  obtain ⟨m1, hdrive, hstrobe⟩ := h.split
  obtain ⟨hcalm, hfaults, hmem⟩ := hdrive.calm hb
    (calm_append (calm_writeBankActs (bankOf_mem_restoreOrder (by simp)) hb.lo_ctrl _ _)
      (calm_writeBankActs data_mem_restoreOrder hb.data_ctrl _ _)) hs.toCalm
  have hregs1 := hdrive.clean_regs hs.params hs.clean (proper_writeIoDrives hb port v)
  simp only [writeIoDrives, bankAfter_append, bankAfter_writeBank] at hregs1
  have hhi : drives p m1.chips (bankOf p .addrHi) = 0#8 := by
    rw [drives, hregs1, if_neg hb.hi_data, if_neg hb.lo_hi.symm]; exact hs.undriven _ (bankOf_mem_restoreOrder (by simp))
  obtain ⟨hend, -⟩ := hstrobe.stage (stageRule_io hb (hcalm.quiet hb) rfl (.inr rfl)) hb (on_strobeRuns has)
    hcalm.params hcalm.granted (hcalm.stage 0x0C#8)
  have hhi2 : drives p m2.chips (bankOf p .addrHi) = 0#8 := by rw [drives, hend.stage.rest _ hb.hi_ctrl]; exact hhi
  have hquiet2 := stage_quiet hb (hcalm.quiet hb) (fun _ => ⟨rfl, .inr rfl⟩) (fun h => (hb.data_ctrl h.symm).elim) hend.stage
  have ht := cleanup_path hb (stageRule_io hb hquiet2 rfl (.inr rfl)) hclean (by simp [restoreOrder]) hend.params
    hend.granted ⟨hend.stage.clean, fun _ _ => rfl, hend.stage.within⟩ (by simp +contextual [restoreOrder, hhi2])
  exact ⟨ht.rest, ht.faults.trans (hend.faults.trans hfaults), hmem.symm.trans (hend.mem.trans ht.mem)⟩

/-- The read of a bank leaves the bus at rest and the memory as it is. -/
theorem readBank_path {id : BankId} {v : Byte} (hid : id ∈ restoreOrder p) (hs : AtRest p s)
    (h : Path (readBankActs p id v) s t) : Transacted p Eq s t := by
  obtain ⟨hcalm, hfaults, hmem⟩ := h.calm hb (calm_readBankActs hid v) hs.toCalm
  refine ⟨⟨hcalm, fun id' hid' => ?_⟩, hfaults, hmem.symm⟩
  rw [drives, h.clean_regs hs.params hs.clean (proper_readBankActs (mem_restoreOrder_present hb hid) v), bankAfter_readBank]
  split
  · exact drives_madeInput p _
  · exact hs.undriven id' hid'

end

theorem Transacted.trans {p : Params} {s t u : State} (h : Transacted p Eq s t) (k : Transacted p Eq t u) :
    Transacted p Eq s u := ⟨k.rest, k.faults.trans h.faults, h.mem.trans k.mem⟩

end Sys2Proof.Machine

/-! # Probes, and the bus while the block drives nothing (R236 to R238, R41, R44)

While the block drives nothing, nothing contends whatever the CPU does, and a read returns the levels of the lines. -/

namespace Sys2Proof.Machine

/-! ## The runs of the probes -/

section
variable {p : Params}

theorem answers_probe {α : Type} {o : Op α} {r n : Nat} {Q : α → List Action → Prop} (c : Op Unit)
    (ho : Answers p r n o fun v acts f => Q v acts ∧ KeepsReport f) :
    Answers p r n (fun s => onError o c (freshTransaction s)) fun v acts f => Q v acts ∧ KeepsReport f := by
  have h := answers_andThen (q := r) (answers_modifySeq fun q => { q with touched := [], strobed := false })
    (fun _ => answers_onError (c := c) ho) (by omega) (by omega)
  rw [Nat.zero_add] at h
  refine Answers.mono (o := fun s => onError o c (freshTransaction s)) h ?_
  rintro v acts f ⟨-, as, bs, a, b, rfl, rfl, ⟨rfl, rfl⟩, hQ, hb⟩
  exact ⟨hQ, KeepsReport.trans (f := fun q => { q with touched := [], strobed := false }) (fun _ => ⟨rfl, rfl⟩) hb⟩

theorem answers_readRawBankOp (n : SignalName) :
    Answers p 2 2 (readRawBankOp n) fun v acts f => acts = readBankActs p (bankOf p n) v ∧ KeepsReport f :=
  answers_depends (f := fun s s' => onError (readBank (bankOf s.params n)) probeCleanup (freshTransaction s'))
    fun s hs => by
      subst hs
      exact answers_probe probeCleanup ((answers_readBank _).mono fun _ _ _ h => ⟨h.1, h.2.report⟩)

/-- The run of `READ_RAW ADDR` (R236). -/
def readAddrActs (p : Params) (hi lo : Byte) : List Action :=
  readBankActs p (bankOf p .addrLo) lo ++ readBankActs p (bankOf p .addrHi) hi

theorem answers_readRawAddrOp :
    Answers p 4 4 readRawAddrOp fun v acts f => (∃ hi lo, v = hi ++ lo ∧ acts = readAddrActs p hi lo) ∧ KeepsReport f := by
  refine answers_depends (f := fun s s' => onError (andThen (readBank (bankOf s.params .addrLo)) fun lo =>
    andThen (readBank (bankOf s.params .addrHi)) fun hi => result (addrOf hi lo)) probeCleanup (freshTransaction s'))
    fun s hs => ?_
  subst hs
  refine answers_probe probeCleanup (Answers.mono (answers_andThen (answers_readBank _)
    (fun lo => answers_map (fun hi => addrOf hi lo) (answers_readBank _)) (by omega) (.inr le_rfl)) ?_)
  rintro v acts f ⟨lo, as, bs, a, b, rfl, rfl, ⟨rfl, ha⟩, hi, rfl, rfl, hb⟩
  exact ⟨⟨hi, lo, rfl, rfl⟩, ha.report.trans hb.report⟩

end

/-! ## A bus that the block does not drive -/

/-- Clean registers with which the block drives nothing. -/
structure Idle (p : Params) (e : Expanders) : Prop where
  clean : Clean p e
  undriven : ∀ id, chipPresent p.numChips id.chip = true → drives p e id = 0#8

theorem AtRest.idle {p : Params} {s : State} (h : AtRest p s) : Idle p s.chips :=
  ⟨h.clean, fun id hid => by
    by_cases hmem : id ∈ restoreOrder p
    · exact h.undriven id hmem
    · exact h.clean.others id hid hmem⟩

theorem Idle.atRest {p : Params} {s : State} (h : Idle p s.chips) (hb : BusBanks p) (hp : s.params = p) (hg : Granted s) :
    AtRest p s :=
  ⟨⟨hp, hg, h.clean, h.undriven _ (hb.present .ctrl (by simp))⟩,
    fun id hid => h.undriven id (mem_restoreOrder_present hb hid)⟩

/-- Nothing contends with a block that drives nothing: in a read cycle of its own the CPU does not drive the data lines
(R43, log 6). -/
theorem Idle.contentionEvents {s : State} {d : Draw} (h : Idle s.params s.chips) (hb : BusBanks s.params) :
    contentionEvents s d = [] := by
  refine contentionEvents_nil fun id hid => ?_
  have hd : blockDrive s id = 0#8 := h.undriven id hid
  have hc : blockDrive s (bankOf s.params .ctrl) = 0#8 := h.undriven _ (hb.present .ctrl (by simp))
  unfold bankContention
  split
  · by_cases hk : isReadCycle (busKind s d) = true
    · simp [contended, hd, dataOutside, hk, hc]
    · simp [contended, hd, memoryDrive, hk]
  · simp [contended, hd]

/-- An action that makes no line of an expander an output. -/
def Action.Idle (p : Params) (a : Action) : Prop :=
  (∃ id ∈ restoreOrder p, a.On p id 0#8) ∨ ∀ e, a.chips p e = e

section
variable {p : Params}

theorem Idle.chips {e : Expanders} (h : Idle p e) (hb : BusBanks p) {a : Action} (ha : a.Idle p) :
    Idle p (a.chips p e) := by
  rcases ha with ⟨id, hid, ha⟩ | ha
  · have hpres := mem_restoreOrder_present hb hid
    have hnext := Stage.chips ⟨h.clean, fun _ _ => rfl, by rw [h.undriven id hpres]; exact BitVec.and_zero⟩ ha hb hid
    refine ⟨hnext.clean, fun id' hid' => ?_⟩
    by_cases heq : id' = id
    · rw [heq]; exact (allOnes_and_byte _).symm.trans hnext.within
    · rw [drives, hnext.rest id' heq]; exact h.undriven id' hid'
  · rw [ha]; exact h

theorem idle_append {as bs : List Action} (ha : ∀ a ∈ as, a.Idle p) (hb : ∀ a ∈ bs, a.Idle p) :
    ∀ a ∈ as ++ bs, a.Idle p := fun a h => (List.mem_append.1 h).elim (ha a) (hb a)

theorem idle_readBankActs {id : BankId} (hid : id ∈ restoreOrder p) (v : Byte) : ∀ a ∈ readBankActs p id v, a.Idle p :=
  fun a ha => .inl ⟨id, hid, on_readBankActs v a ha⟩

theorem idle_restoresActs {ids : List BankId} (h : ∀ id ∈ ids, id ∈ restoreOrder p) :
    ∀ a ∈ restoresActs p ids, a.Idle p := fun a ha => by
  obtain ⟨id, hid, ha⟩ := List.mem_flatMap.1 ha
  exact .inl ⟨id, h id hid, on_restoreActs a ha⟩

theorem idle_assertActs (l : Line) : ∀ a ∈ assertActs p l, a.Idle p := by
  simp [assertActs, Action.Idle, Action.chips]

theorem idle_releaseActs (l : Line) : ∀ a ∈ releaseActs p l, a.Idle p := by
  unfold releaseActs
  split <;> simp [Action.Idle, Action.chips]

/-- A run of idle actions contends with nothing, whatever the CPU does. -/
theorem Path.idle {acts : List Action} {s t : State} (hb : BusBanks p) (h : Path acts s t) (ha : ∀ a ∈ acts, a.Idle p)
    (hp : s.params = p) (hs : Idle p s.chips) :
    Idle p t.chips ∧ t.history.filter isFault = s.history.filter isFault := by
  induction h with
  | same hw => exact ⟨hw.chips ▸ hs, hw.faults⟩
  | @step acts a s' m' t' h hstep ih =>
    obtain ⟨hm, hfaults⟩ := ih (fun x hx => ha x (List.mem_append_left _ hx)) hp hs
    cases hport : a.isPort with
    | false =>
      have hw := hstep.entry hport
      exact ⟨hw.chips ▸ hm, hw.faults.trans hfaults⟩
    | true =>
      obtain ⟨n, hn⟩ := hstep.bus hport
      have hpm : m'.params = p := h.ended.params.trans hp
      have hchips : Idle p n.chips := by rw [hn.chips, hpm]; exact hm.chips hb (ha a (by simp))
      have hbefore : contentionEvents (busBetween (drawAt m' 0) (dropDraw m')) (drawBetween (drawAt m' 0)) = [] :=
        Idle.contentionEvents (by simpa [busBetween, cpuMoves, hpm] using hm) (by simpa [busBetween, cpuMoves, hpm] using hb)
      have hpn : n.params = p := hn.params.trans hpm
      refine ⟨hn.chips_after ▸ hchips, ?_⟩
      rw [hn.faults, hbefore, Idle.contentionEvents (s := n) (by rw [hpn]; exact hchips) (by rw [hpn]; exact hb), List.append_nil,
        List.append_nil, hfaults]

/-- What a bank read returns: the levels of the lines when the CPU has moved before the read, with the registers idle. -/
theorem readBank_reads {s t : State} {id : BankId} {v : Byte} (hb : BusBanks p) (h : Path (readBankActs p id v) s t)
    (hid : id ∈ restoreOrder p) (hp : s.params = p) (hs : Idle p s.chips) :
    ∃ k, Path [.write id.chip (.iodir id.bank) (allIn p)] s k ∧ k.params = p ∧ Idle p k.chips ∧
      v = bankLevels (envMove (drawAt s 1) (dropDraw k)) (drawAt s 1) id := by
  obtain ⟨k, hwrite, hread⟩ := h.cons
  have hacts : ∀ a ∈ [Action.write id.chip (.iodir id.bank) (allIn p)], a.Idle p := idle_restoresActs (ids := [id]) (by simpa)
  obtain ⟨hk, -⟩ := hwrite.idle hb hacts hp hs
  obtain ⟨k', hworld, hstep⟩ := hread.one
  obtain ⟨n, hn⟩ := hstep.bus rfl
  refine ⟨k', hwrite.world hworld, hworld.params.trans (hwrite.ended.params.trans hp), hworld.chips ▸ hk, ?_⟩
  have hr : v = gpioByte (envMove (drawAt k' 0) (dropDraw k')) (drawAt k' 0) id := hn.reads
  have hd : drawAt k' 0 = drawAt s 1 := (hworld.draws 0).trans (hwrite.ended.draws 0)
  have hpk : k'.params = p := hworld.params.trans (hwrite.ended.params.trans hp)
  rw [hd] at hr
  rw [hr, gpioByte_clean (by simpa [hpk, hworld.chips] using hk.clean)
    (by simpa [hpk] using mem_restoreOrder_present hb hid)]

/-- The same on a granted bus. -/
theorem readBank_granted {s t : State} {id : BankId} {v : Byte} (hb : BusBanks p) (h : Path (readBankActs p id v) s t)
    (hid : id ∈ restoreOrder p) (hs : AtRest p s) :
    ∃ n d, n.params = p ∧ Granted n ∧ Idle p n.chips ∧ v = bankLevels n d id := by
  obtain ⟨k, hwrite, hp, hk, hv⟩ := readBank_reads hb h hid hs.params hs.idle
  obtain ⟨hcalm, -, -⟩ := hwrite.calm hb (calm_restoreActs hid) hs.toCalm
  have hd : drawAt k 0 = drawAt s 1 := hwrite.ended.draws 0
  obtain ⟨hg, -⟩ := granted_envMove hcalm.granted
  rw [hd] at hg
  exact ⟨_, _, by simpa using hp, hg, by simpa using hk, hv⟩

/-! ## A CPU that is not granted -/

/-- The CPU is not granted, and BUSRQ does not ask it to be (R52). -/
structure Ungranted (s : State) : Prop where
  cpu : s.cpu.granted = false
  busrq : ∀ d, lineActive s d .busrq = false

theorem nextGranted_ungranted {s : State} (h : Ungranted s) (d : Draw) : nextGranted d (dropDraw s) = false := by
  have hb : lineActive (dropDraw s) d .busrq = false := (lineActive_congr (by simp) (by simp) d).trans (h.busrq d)
  simp [nextGranted, hb, h.cpu]

theorem granted_resetSeen {b : Bool} {c : Cpu} (h : c.granted = false) : (resetSeen b c).granted = false := by
  cases b <;> simp [h]

theorem Ungranted.of_same {s t : State} (h : Ungranted s) (hp : t.params = s.params) (hcpu : t.cpu.granted = false)
    (hl : ofLine t.lines .busrq = ofLine s.lines .busrq) : Ungranted t :=
  ⟨hcpu, fun d => (lineActive_congr hp hl d).trans (h.busrq d)⟩

theorem Path.ungranted {acts : List Action} {s t : State} (h : Path acts s t) (ha : ∀ a ∈ acts, a.SparesGrant)
    (hs : Ungranted s) : Ungranted t := by
  induction h with
  | same hw => exact hs.of_same hw.params (by rw [hw.cpu, hs.cpu]) (by rw [hw.lines])
  | @step acts a s' m' t' h hstep ih =>
    have hm := ih (fun x hx => ha x (List.mem_append_left _ hx)) hs
    cases hport : a.isPort with
    | false =>
      have hw := hstep.entry hport
      exact hm.of_same hw.params (by rw [hw.cpu, hm.cpu]) (by rw [hw.lines])
    | true =>
      obtain ⟨n, hn⟩ := hstep.bus hport
      refine hm.of_same hn.params_after ?_ ?_
      · rw [hn.cpu_after, hn.cpu]
        exact granted_resetSeen (nextGranted_ungranted hm _)
      · rw [hn.lines_after, hn.lines]
        exact ofLine_lines_sparesGrant (ha a (by simp)) (.inl rfl) _

end

/-! ## The levels of an undriven bus -/

section
variable {p : Params} {n : State} {d : Draw}

/-- On a granted bus at rest the address lines read as their pull-ups. -/
theorem addr_levels (hb : BusBanks p) (hp : n.params = p) (hg : Granted n) (h : Idle p n.chips) {x : SignalName}
    (hx : x = .addrLo ∨ x = .addrHi) : bankLevels n d (bankOf p x) = 0xFF#8 := by
  subst hp
  have hne : bankOf n.params x ≠ bankOf n.params .data := by rcases hx with rfl | rfl; exacts [hb.lo_data, hb.hi_data]
  have hpres : chipPresent n.params.numChips (bankOf n.params x).chip = true := hb.present x (by rcases hx with rfl | rfl <;> simp)
  rw [bankLevels, if_neg hne]
  exact plainLevels_pulledUp hg.wired hg.cpu (by tauto) (h.undriven _ hpres) (h.clean.pull _ hpres)

/-- Address lines that a CPU drives while the block does not have the levels it drives. -/
theorem addr_levels_outside (hb : BusBanks p) (hp : n.params = p) (hw : Wired p) (hg : n.cpu.granted = false)
    (h : Idle p n.chips) {x : SignalName} (hx : x = .addrLo ∨ x = .addrHi)
    (hd : (ofBank d.banks (bankOf p x)).drive = 0xFF#8) :
    bankLevels n d (bankOf p x) = (ofBank d.banks (bankOf p x)).level := by
  subst hp
  have hdata : bankOf n.params x ≠ bankOf n.params .data := by rcases hx with rfl | rfl; exacts [hb.lo_data, hb.hi_data]
  have hctrl : bankOf n.params x ≠ bankOf n.params .ctrl := by rcases hx with rfl | rfl; exacts [hb.lo_ctrl, hb.hi_ctrl]
  have hblock : blockDrive n (bankOf n.params x) = 0#8 := h.undriven _ (hb.present x (by rcases hx with rfl | rfl <;> simp))
  have hout : outsideDrive n d (bankOf n.params x) = 0xFF#8 := by simp [outsideDrive, cpuAlwaysMask, hctrl, hg, hd]
  have hl : 0xFF#8 &&& plainLevels n d (bankOf n.params x) = 0xFF#8 &&& outsideLevel n d (bankOf n.params x) :=
    resolve_outside ((allOnes_and_byte _).trans hblock) ((allOnes_and_byte _).trans hout) rfl
  rw [bankLevels, if_neg hdata]
  simpa [outsideLevel, hctrl] using hl

/-- On a granted bus at rest the data lines read as their pull-ups. -/
theorem data_levels (hb : BusBanks p) (hp : n.params = p) (hg : Granted n) (h : Idle p n.chips) :
    bankLevels n d (bankOf p .data) = 0xFF#8 := by
  subst hp
  have hpres := hb.present .data (by simp)
  rw [dataBank_levels]
  exact dataLevels_pulledUp hg.wired hg.cpu (h.undriven _ hpres) (h.clean.pull _ hpres)
    (isReadCycle_of_rd hg.wired (strobesFree_of_clean hb hg h.clean d)
      (by rw [blockDrive_eq, h.undriven _ (hb.present .ctrl (by simp))]; rfl))

/-- BUSAK reads Active exactly while the CPU is granted (R41). -/
theorem busak_level (hw : Wired n.params) (hd : blockDrive n (bankOf n.params .ctrl) = 0#8) :
    0x01#8 &&& ctrlLevels n d = if n.cpu.granted then 0x00#8 else 0x01#8 := by
  have hout : 0x01#8 &&& outsideDrive n d (bankOf n.params .ctrl) = 0x01#8 := by
    have hbits : ∀ x : Byte, 0x01#8 &&& (0x21#8 ||| x) = 0x01#8 := by decide
    simpa [outsideDrive, cpuAlwaysMask, hw.busak, hw.m1] using hbits _
  have hlevel : 0x01#8 &&& outsideLevel n d (bankOf n.params .ctrl) = if n.cpu.granted then 0x00#8 else 0x01#8 := by
    have hbits : ∀ x : Byte, 0x01#8 &&& (x &&& ~~~0x01#8 ||| 0x00#8) = 0x00#8 ∧
        0x01#8 &&& (x &&& ~~~0x01#8 ||| 0x01#8) = 0x01#8 := by decide
    simp only [outsideLevel, if_true, hw.busak, hw.activeLevel]
    cases n.cpu.granted
    · exact (hbits _).2
    · exact (hbits _).1
  rw [ctrlLevels, plainLevels, levelsWith, hd, resolve_outside BitVec.and_zero hout BitVec.and_zero, hlevel]

/-- On a granted bus at rest BUSAK reads Active and every strobe Inactive. -/
theorem ctrl_levels (hb : BusBanks p) (hp : n.params = p) (hg : Granted n) (h : Idle p n.chips) :
    bankLevels n d (bankOf p .ctrl) &&& 0x1F#8 = 0x1E#8 := by
  subst hp
  have hd : blockDrive n (bankOf n.params .ctrl) = 0#8 := h.undriven _ (hb.present .ctrl (by simp))
  have hstrobes := ctrlLevels_undriven (k := 0x1E#8) (strobesFree_of_clean hb hg h.clean d) rfl (by rw [hd]; rfl)
  have hbusak := busak_level (d := d) hg.wired hd
  rw [hg.cpu, if_pos rfl] at hbusak
  rw [bankLevels, if_neg hb.data_ctrl.symm]
  change ctrlLevels n d &&& 0x1F#8 = 0x1E#8
  generalize ctrlLevels n d = x at hstrobes hbusak
  revert x
  decide

end

end Sys2Proof.Machine

/-! # The launch premises, and the probes' results (R236 to R238, R379) -/

namespace Sys2Proof.Machine

/-! ## The premises, taken apart -/

theorem iodir_of_drives {p : Params} {x : Byte} (h : outputBits p x = 0#8) : x = allIn p := by
  cases hb : p.dirInputBit
  · simpa [outputBits, allIn, dirVal, hb] using h
  · have hx : ~~~x = 0#8 := by simpa [outputBits, hb] using h
    simp only [allIn, dirVal, hb, if_true]
    rw [← hx, BitVec.not_not]

theorem chipsClean_iff {s : State} : chipsClean s = true ↔
    Idle s.params s.chips ∧ ∀ c, chipPresent s.params.numChips c = true → (chipRegs s.chips c).iocon = 0x28#8 := by
  simp only [chipsClean, Bool.and_eq_true, List.all_eq_true, beq_iff_eq, mem_banksOf, mem_chipsOf, atRest_iff]
  constructor
  · rintro ⟨⟨hrest, hpol⟩, hiocon⟩
    have hdrive : ∀ id, chipPresent s.params.numChips id.chip = true → drives s.params s.chips id = 0#8 := fun id hid => by
      rw [drives, (hrest id hid).1, outputBits_allIn]
    exact ⟨⟨⟨fun c hc => by rw [hiocon c hc]; rfl, fun id hid => (hrest id hid).2, hpol, fun id hid _ => hdrive id hid⟩, hdrive⟩,
      hiocon⟩
  · rintro ⟨h, hiocon⟩
    exact ⟨⟨fun id hid => ⟨iodir_of_drives (h.undriven id hid), h.clean.pull id hid⟩, h.clean.polarity⟩, hiocon⟩

/-- A released line with its pull-up on is Inactive under the default wiring. -/
theorem lineActive_atRest {s : State} {l : Line} (hw : Wired s.params) (h : lineAtRest s l = true) (d : Draw) :
    lineActive s d l = false := by
  simp only [lineAtRest, lineReleased, hw.activeLevel, Bool.false_eq_true, if_false, Bool.and_eq_true, beq_iff_eq] at h
  rw [lineActive, lineLevel_of_pullUp h.1 h.2, hw.activeLevel]
  rfl

theorem lineActive_asserted {s : State} {l : Line} (h : lineAsserted s l = true) (d : Draw) : lineActive s d l = true := by
  rw [lineActive, lineLevel_of_asserted h, beq_self_eq_true]

theorem noFault_iff {s : State} : (∀ e ∈ s.history, (!isFault e) = true) ↔ s.history.filter isFault = [] := by
  simp [List.filter_eq_nil_iff]

/-- The launch premise `CleanOwned`, taken apart. -/
structure OwnedState (s : State) : Prop where
  configured : s.configured = true
  owned : s.arb = .owned
  pending : s.pending = none
  seq : s.seq = none
  busrq : lineAsserted s .busrq = true
  lines : ∀ l ∈ [Line.wait, .reset, .int, .nmi], lineAtRest s l = true
  chips : chipsClean s = true
  granted : s.cpu.granted = true
  faults : s.history.filter isFault = []

theorem cleanOwned_iff {s : State} : cleanOwned s = true ↔ OwnedState s := by
  simp only [cleanOwned, Bool.and_eq_true, beq_iff_eq, List.all_eq_true]
  constructor
  · rintro ⟨⟨⟨⟨⟨⟨⟨⟨h1, h2⟩, h3⟩, h4⟩, h5⟩, h6⟩, h7⟩, h8⟩, h9⟩
    exact ⟨h1, h2, h3, h4, h5, h6, h7, h8, noFault_iff.1 h9⟩
  · rintro ⟨h1, h2, h3, h4, h5, h6, h7, h8, h9⟩
    exact ⟨⟨⟨⟨⟨⟨⟨⟨h1, h2⟩, h3⟩, h4⟩, h5⟩, h6⟩, h7⟩, h8⟩, noFault_iff.2 h9⟩

/-- The launch premise `CleanConfigured`, taken apart. -/
structure ConfiguredState (s : State) : Prop where
  configured : s.configured = true
  released : s.arb = .released
  pending : s.pending = none
  seq : s.seq = none
  lines : ∀ l, lineAtRest s l = true
  chips : chipsClean s = true
  granted : s.cpu.granted = false
  faults : s.history.filter isFault = []

theorem mem_allLines (l : Line) : l ∈ allLines := by cases l <;> decide

theorem cleanConfigured_iff {s : State} : cleanConfigured s = true ↔ ConfiguredState s := by
  simp only [cleanConfigured, Bool.and_eq_true, beq_iff_eq, List.all_eq_true]
  constructor
  · rintro ⟨⟨⟨⟨⟨⟨⟨h1, h2⟩, h3⟩, h4⟩, h5⟩, h6⟩, h7⟩, h8⟩
    exact ⟨h1, h2, h3, h4, fun l => h5 l (mem_allLines l), h6, h7, noFault_iff.1 h8⟩
  · rintro ⟨h1, h2, h3, h4, h5, h6, h7, h8⟩
    exact ⟨⟨⟨⟨⟨⟨⟨h1, h2⟩, h3⟩, h4⟩, fun l _ => h5 l⟩, h6⟩, h7⟩, noFault_iff.2 h8⟩

theorem OwnedState.grant {s : State} (h : OwnedState s) (hw : defaultWiring s.params = true) : Granted s :=
  have hwired := wired_of_defaultWiring hw
  ⟨hwired, h.granted, lineActive_asserted h.busrq, lineActive_atRest hwired (h.lines .reset (by simp))⟩

theorem OwnedState.atRest {s : State} (h : OwnedState s) (hw : defaultWiring s.params = true) : AtRest s.params s :=
  (chipsClean_iff.1 h.chips).1.atRest (busBanks_of_registryOk (registryOk_of_defaultWiring hw)) rfl (h.grant hw)

/-! ## The commands of the probes -/

section
variable {s : State} (hreg : registryOk s.params = true) (hc : s.configured = true)
include hreg hc

theorem exec_readRawAddr (ha : TransfersAnswered 4 s) : ∃ t lo hi, exec .readRawAddr s = .next t ∧
    Answered (hi ++ lo, 0#8) (readAddrActs s.params hi lo) s t := by
  have hbody (q : Option Sequencer) : commandBody .readRawAddr (setSeq q s) = inD16 readRawAddrOp (setSeq q s) :=
    precheck_passes hc nofun
  obtain ⟨v, t, acts, f, he, had, ⟨hi, lo, rfl, rfl⟩, -⟩ := exec_inD16 (i := .readRawAddr) rfl hreg hbody
    answers_readRawAddrOp (fun _ _ _ h => h.2) ha
  exact ⟨t, lo, hi, he, had⟩

theorem exec_readRawBank {i : Instr} {n : SignalName} (hi : (i = .readRawData ∧ n = .data) ∨ (i = .readRawCtrl ∧ n = .ctrl))
    (ha : TransfersAnswered 2 s) : ∃ t v, exec i s = .next t ∧
    Answered (0#16, v) (readBankActs s.params (bankOf s.params n) v) s t := by
  have hbody (q : Option Sequencer) : commandBody i (setSeq q s) = inD8 (readRawBankOp n) (setSeq q s) := by
    rcases hi with ⟨rfl, rfl⟩ | ⟨rfl, rfl⟩
    · exact precheck_passes hc nofun
    · exact precheck_passes hc nofun
  obtain ⟨v, t, acts, f, he, had, rfl, -⟩ := exec_inD8 (by rcases hi with ⟨rfl, -⟩ | ⟨rfl, -⟩ <;> rfl) hreg hbody
    (answers_readRawBankOp n) (fun _ _ _ h => h.2) ha
  exact ⟨t, v, he, had⟩

end

theorem noPin_readBankActs (p : Params) (id : BankId) (v : Byte) : ∀ a ∈ readBankActs p id v, a.NoPin := by
  simp [readBankActs, Action.NoPin]

/-- A clean-configured CPU is not granted, nor asked to be. -/
theorem ConfiguredState.ungranted {s : State} (h : ConfiguredState s) (hw : defaultWiring s.params = true) : Ungranted s :=
  ⟨h.granted, lineActive_atRest (wired_of_defaultWiring hw) (h.lines .busrq)⟩

/-- From `CleanConfigured` an address bank that the CPU drives when it is read reads as what the CPU drives. -/
theorem readBank_outside {s t : State} {x : SignalName} {v : Byte} (hw : defaultWiring s.params = true)
    (hx : x = .addrLo ∨ x = .addrHi) (hs : Idle s.params s.chips) (hu : Ungranted s)
    (hd : (ofBank (drawAt s 1).banks (bankOf s.params x)).drive = 0xFF#8)
    (h : Path (readBankActs s.params (bankOf s.params x) v) s t) :
    v = (ofBank (drawAt s 1).banks (bankOf s.params x)).level := by
  have hb := busBanks_of_registryOk (registryOk_of_defaultWiring hw)
  have hid : bankOf s.params x ∈ restoreOrder s.params := bankOf_mem_restoreOrder (by rcases hx with rfl | rfl <;> simp)
  obtain ⟨k, hwrite, hp, hk, hv⟩ := readBank_reads hb h hid rfl hs
  have hku := hwrite.ungranted (by simp [Action.SparesGrant]) hu
  rw [hv]
  exact addr_levels_outside hb (by simpa using hp) (wired_of_defaultWiring hw) (by simpa using nextGranted_ungranted hku _)
    (by simpa using hk) hx hd

/-- Settles O32: the answers of the probe, and the levels that its reads find. -/
theorem readRawAddrResult : Obligations.ReadRawAddrResult := by
  intro s hreg hc ha
  have hb := busBanks_of_registryOk hreg
  obtain ⟨t, lo, hi, he, had⟩ := exec_readRawAddr hreg hc ha
  have hproper : ∀ a ∈ readAddrActs s.params hi lo, a.Proper s.params :=
    proper_append (proper_readBankActs (hb.present .addrLo (by simp)) _) (proper_readBankActs (hb.present .addrHi (by simp)) _)
  have hallIn : ∀ a ∈ readAddrActs s.params hi lo, a.AllIn s.params := fun a h =>
    (List.mem_append.1 h).elim (allIn_readBankActs _ a) (allIn_readBankActs _ a)
  have hlo : bankOf s.params .addrLo ∈ restoreOrder s.params := bankOf_mem_restoreOrder (by simp)
  have hhi : bankOf s.params .addrHi ∈ restoreOrder s.params := bankOf_mem_restoreOrder (by simp)
  obtain ⟨m, hpathLo, hpathHi⟩ := had.path.split
  refine ⟨t, lo, hi, he, had.response, had.portActions_eq (by simp [readAddrActs]), ?_, sameBlock_of_exec he rfl fun _ => rfl,
    had.seq, sameButDirections_of_exec he nofun rfl, fun n hn => ?_, fun hd id => ?_, fun ho hw => ?_,
    fun hconf hw hdlo hdhi => ?_⟩
  · rw [had.busCycles]; simp [readAddrActs]
  · refine blockDrive_of_allIn ?_
    rw [had.chips, exec_keeps keeps_params he]
    refine iodir_foldl_of_mem (hb.present n (by simp at hn; rcases hn with rfl | rfl <;> simp)) hallIn ?_
    simp only [List.mem_cons, List.not_mem_nil, or_false] at hn
    rcases hn with rfl | rfl <;> simp [readAddrActs, readBankActs]
  · rw [had.bankRegs hd hproper, readAddrActs, bankAfter_append, bankAfter_readBank, bankAfter_readBank]
    induction id using bank_cases s.params with
    | lo => simp [hb.lo_hi]
    | hi => simp [hb.lo_hi.symm]
    | data => simp [hb.lo_data.symm, hb.hi_data.symm]
    | ctrl => simp [hb.lo_ctrl.symm, hb.hi_ctrl.symm]
    | other id h1 h2 h3 h4 => simp [h1, h2]
  · have hs := (cleanOwned_iff.1 ho).atRest hw
    have hm := readBank_path hb hlo hs hpathLo
    obtain ⟨n, d, hp, hg, hidle, hvlo⟩ := readBank_granted hb hpathLo hlo hs
    obtain ⟨n', d', hp', hg', hidle', hvhi⟩ := readBank_granted hb hpathHi hhi hm.rest
    rw [hvlo, hvhi, addr_levels hb hp hg hidle (.inl rfl), addr_levels hb hp' hg' hidle' (.inr rfl)]
    rfl
  · have hs := cleanConfigured_iff.1 hconf
    have hwired := wired_of_defaultWiring hw
    have hidle := (chipsClean_iff.1 hs.chips).1
    obtain ⟨hm, -⟩ := hpathLo.idle hb (idle_readBankActs hlo lo) rfl hidle
    have hpm : m.params = s.params := hpathLo.ended.params
    have hum := hpathLo.ungranted (fun a h => (noPin_readBankActs _ _ _ a h).sparesGrant) (hs.ungranted hw)
    have hd1 : drawAt m 1 = drawAt s 3 := hpathLo.ended.draws 1
    refine ⟨?_, ?_⟩
    · have hv := readBank_outside hw (.inl rfl) hidle (hs.ungranted hw) (by rw [hwired.lo]; exact hdlo) hpathLo
      rw [hwired.lo] at hv
      exact hv
    · rw [← hpm] at hm hpathHi
      have hv := readBank_outside (x := .addrHi) (by rw [hpm]; exact hw) (.inr rfl) hm hum
        (by rw [hpm, hwired.hi, hd1]; exact hdhi) hpathHi
      rw [hpm, hwired.hi, hd1] at hv
      exact hv

/-- Settles O33: the answers of the probe, and the levels that its read finds. -/
theorem readRawBankResult : Obligations.ReadRawBankResult := by
  intro i n s hi hreg hc ha
  have hb := busBanks_of_registryOk hreg
  have hn : n ∈ [SignalName.ctrl, .data, .addrHi, .addrLo] := by rcases hi with ⟨-, rfl⟩ | ⟨-, rfl⟩ <;> simp
  have hpres := mem_restoreOrder_present hb (bankOf_mem_restoreOrder hn)
  obtain ⟨t, v, he, had⟩ := exec_readRawBank hreg hc hi ha
  have hframe : mayWriteArb i = false ∧ (∀ l, mayWriteLine i l = false) ∧ i ≠ .configure ∧ mayDrive i = false := by
    rcases hi with ⟨rfl, -⟩ | ⟨rfl, -⟩ <;> exact ⟨rfl, fun _ => rfl, nofun, rfl⟩
  obtain ⟨harb, hlines, hconf, hdrive⟩ := hframe
  refine ⟨t, v, he, had.response, had.portActions_eq (by simp), ?_, sameBlock_of_exec he harb hlines, had.seq,
    sameButDirections_of_exec he hconf hdrive, ?_, fun hd id => ?_, fun ho hw => ?_⟩
  · rw [had.busCycles]; simp
  · refine blockDrive_of_allIn ?_
    rw [had.chips, exec_keeps keeps_params he]
    exact iodir_foldl_of_mem hpres (allIn_readBankActs v) (by simp [readBankActs])
  · rw [had.bankRegs hd (proper_readBankActs hpres v), bankAfter_readBank]
  · obtain ⟨n', d, hp, hg, hidle, hv⟩ := readBank_granted hb had.path (bankOf_mem_restoreOrder hn)
      ((cleanOwned_iff.1 ho).atRest hw)
    refine ⟨?_, ?_⟩
    · rintro rfl
      rw [hv, data_levels hb hp hg hidle]
    · rintro rfl
      rw [hv, ctrl_levels hb hp hg hidle]

end Sys2Proof.Machine

/-! # Commands from `CleanOwned` (R98, R379, 10_state.md section 5) -/

namespace Sys2Proof.Machine

theorem portCount_strobeRuns {p : Params} {m : Byte} {e : Event} {as : List Action}
    (has : as ∈ strobeRuns p m (some e)) : portCount as = 2 := by
  cases hw : p.writeOrder with
  | latchFirst =>
    simp only [strobeRuns, hw, List.mem_singleton] at has
    rw [has, portCount_append, portCount_writeBankActs]
    rfl
  | dirFirst =>
    simp only [strobeRuns, hw, List.mem_cons, List.not_mem_nil, or_false] at has
    rcases has with rfl | rfl <;> rfl

theorem portCount_writeMemActs {p : Params} {a : Addr} {v m : Byte} {e : Event} {as : List Action}
    (has : as ∈ strobeRuns p m (some e)) :
    portCount (writeMemDrives p a v ++ as ++ cleanupActs p m (restoreOrder p)) = 14 := by
  simp [writeMemDrives, cleanupActs, portCount_writeBankActs, portCount_strobeRuns has, portCount_restoresActs, restoreOrder]

section
variable {s : State} (ho : cleanOwned s = true) (hw : defaultWiring s.params = true)
include ho hw

/-- `READ_MEM` from `CleanOwned`: the bus at rest again, and under `SimMem` the memory's byte as its result. -/
theorem exec_readMem_owned (a : Addr) (ha : TransfersAnswered 14 s) : ∃ t d, exec (.readMem a) s = .next t ∧
    t.response = some (okReply false 0#16 d) ∧ t.seq = none ∧ Transacted s.params (Fills a) s t ∧
    (s.params.oracle = .simMem → memRead t.mem a.toNat = some d) := by
  have hs := cleanOwned_iff.1 ho
  have hreg := registryOk_of_defaultWiring hw
  obtain ⟨d, t, acts, f, he, had, rfl, -⟩ := exec_inD8 (i := .readMem a) rfl hreg
    (transaction_body rfl hs.configured hs.owned) (answers_readMemoryOp a) (fun _ _ _ h => h.2) ha
  obtain ⟨htrans, hsim⟩ := readMem_path (busBanks_of_registryOk hreg) (hs.atRest hw) had.path
  exact ⟨t, d, he, had.response, had.seq, htrans, hsim⟩

/-- `WRITE_MEM` from `CleanOwned`: the bus at rest again, and the byte stored. -/
theorem exec_writeMem_owned (a : Addr) (v : Byte) (ha : TransfersAnswered 14 s) : ∃ t, exec (.writeMem a v) s = .next t ∧
    t.response = some (okReply false 0#16 0#8) ∧ t.seq = none ∧ Transacted s.params (Stores a v) s t ∧
    memRead t.mem a.toNat = some v ∧ ∀ i, drawAt t i = drawAt s (14 + i) := by
  have hs := cleanOwned_iff.1 ho
  have hreg := registryOk_of_defaultWiring hw
  obtain ⟨t, acts, f, he, had, ⟨as, has, rfl⟩, -⟩ := exec_noData (i := .writeMem a v) rfl hreg
    (transaction_body rfl hs.configured hs.owned) (answers_writeMemoryOp a v) (fun _ _ h => h.2) ha
  have hpath := had.path
  rw [(wired_of_defaultWiring hw).memWrMask] at has hpath
  obtain ⟨htrans, hmem⟩ := writeMem_path (busBanks_of_registryOk hreg) (hs.atRest hw) has hpath
  exact ⟨t, he, had.response, had.seq, htrans, hmem, fun i => (hpath.ended.draws i).trans
    (by rw [portCount_writeMemActs has])⟩

theorem exec_readIo_owned (port : Byte) (ha : TransfersAnswered 14 s) : ∃ t, exec (.readIo port) s = .next t ∧
    t.seq = none ∧ Transacted s.params Eq s t := by
  have hs := cleanOwned_iff.1 ho
  have hreg := registryOk_of_defaultWiring hw
  have hb := busBanks_of_registryOk hreg
  obtain ⟨d, t, acts, f, he, had, rfl, -⟩ := exec_inD8 (i := .readIo port) rfl hreg
    (transaction_body rfl hs.configured hs.owned) (answers_readIoOp port hb) (fun _ _ _ h => h.2)
    fun i hi => ha i (by omega)
  exact ⟨t, he, had.seq, readIo_path hb (hs.atRest hw) had.path⟩

theorem exec_writeIo_owned (port v : Byte) (ha : TransfersAnswered 14 s) : ∃ t, exec (.writeIo port v) s = .next t ∧
    t.seq = none ∧ Transacted s.params Eq s t := by
  have hs := cleanOwned_iff.1 ho
  have hreg := registryOk_of_defaultWiring hw
  have hb := busBanks_of_registryOk hreg
  obtain ⟨t, acts, f, he, had, ⟨as, has, rfl⟩, -⟩ := exec_noData (i := .writeIo port v) rfl hreg
    (transaction_body rfl hs.configured hs.owned) (answers_writeIoOp port v hb) (fun _ _ h => h.2)
    fun i hi => ha i (by omega)
  have hpath := had.path
  rw [(wired_of_defaultWiring hw).ioWrMask] at has hpath
  exact ⟨t, he, had.seq, writeIo_path hb (hs.atRest hw) has hpath⟩

theorem exec_readRawAddr_owned (ha : TransfersAnswered 14 s) : ∃ t, exec .readRawAddr s = .next t ∧
    t.seq = none ∧ Transacted s.params Eq s t := by
  have hs := cleanOwned_iff.1 ho
  have hreg := registryOk_of_defaultWiring hw
  have hb := busBanks_of_registryOk hreg
  obtain ⟨t, lo, hi, he, had⟩ := exec_readRawAddr hreg hs.configured fun i hi => ha i (by omega)
  obtain ⟨m, hlo, hhi⟩ := had.path.split
  have hm := readBank_path hb (bankOf_mem_restoreOrder (by simp)) (hs.atRest hw) hlo
  exact ⟨t, he, had.seq, hm.trans (readBank_path hb (bankOf_mem_restoreOrder (by simp)) hm.rest hhi)⟩

theorem exec_readRawBank_owned {i : Instr} {n : SignalName}
    (hi : (i = .readRawData ∧ n = .data) ∨ (i = .readRawCtrl ∧ n = .ctrl)) (ha : TransfersAnswered 14 s) :
    ∃ t, exec i s = .next t ∧ t.seq = none ∧ Transacted s.params Eq s t := by
  have hs := cleanOwned_iff.1 ho
  have hreg := registryOk_of_defaultWiring hw
  obtain ⟨t, v, he, had⟩ := exec_readRawBank hreg hs.configured hi fun i hi => ha i (by omega)
  have hn : n ∈ [SignalName.ctrl, .data, .addrHi, .addrLo] := by rcases hi with ⟨-, rfl⟩ | ⟨-, rfl⟩ <;> simp
  exact ⟨t, he, had.seq, readBank_path (busBanks_of_registryOk hreg) (bankOf_mem_restoreOrder hn) (hs.atRest hw) had.path⟩

end

/-! ## `CleanOwned` again -/

theorem noNewFault_iff {s t : State} (h : HistoryGrows s t) :
    noNewFault s t = true ↔ t.history.filter isFault = s.history.filter isFault := by
  obtain ⟨new, hnew⟩ := h
  simp [noNewFault, newEvents, ← hnew, List.filter_eq_nil_iff]

theorem lineAtRest_congr {s t : State} (hp : t.params = s.params) (hl : t.lines = s.lines) (l : Line) :
    lineAtRest t l = lineAtRest s l := by
  simp only [lineAtRest, lineReleased, hp, hl]

theorem lineAsserted_congr {s t : State} (hp : t.params = s.params) (hl : t.lines = s.lines) (l : Line) :
    lineAsserted t l = lineAsserted s l := by
  simp only [lineAsserted, hp, hl]

/-- A command that leaves the block's state, and the bus at rest, leaves `CleanOwned` again with no fault. -/
theorem cleanOwned_of_transacted {i : Instr} {s t : State} {R : List Host.Cell → List Host.Cell → Prop}
    (ho : cleanOwned s = true) (he : exec i s = .next t) (harb : mayWriteArb i = false)
    (hl : ∀ l, mayWriteLine i l = false) (hq : t.seq = none) (ht : Transacted s.params R s t) :
    noNewFault s t = true ∧ cleanOwned t = true := by
  have hs := cleanOwned_iff.1 ho
  obtain ⟨⟨hp, hconf, hpend, hlines⟩, harb'⟩ := sameBlock_of_exec he harb hl
  have hiocon := sameIocon_of_exec he (by rintro rfl; cases harb)
  refine ⟨(noNewFault_iff (exec_stays historyGrows_commandFrame he)).2 ht.faults, cleanOwned_iff.2 ?_⟩
  refine ⟨hconf.trans hs.configured, harb'.trans hs.owned, hpend.trans hs.pending, hq, ?_, fun l hl => ?_, ?_,
    ht.rest.granted.cpu, ht.faults.trans hs.faults⟩
  · rw [lineAsserted_congr hp hlines, hs.busrq]
  · rw [lineAtRest_congr hp hlines, hs.lines l hl]
  · rw [chipsClean_iff, hp]
    exact ⟨ht.rest.idle, fun c hc => (hiocon c).trans ((chipsClean_iff.1 hs.chips).2 c hc)⟩

/-- A repeated `GRAB` records the warning and nothing else. -/
theorem grab_owned {s : State} (ho : cleanOwned s = true) (hw : defaultWiring s.params = true) :
    ∃ t, exec .grab s = .next t ∧ noNewFault s t = true ∧ cleanOwned t = true ∧ t.mem = s.mem := by
  have hs := cleanOwned_iff.1 ho
  refine ⟨_, grabWhileOwned s (registryOk_of_defaultWiring hw) hs.configured hs.owned, ?_, cleanOwned_iff.2 ?_, rfl⟩
  · simp [noNewFault, newEvents, answered, isFault]
  · refine ⟨hs.configured, hs.owned, hs.pending, rfl, hs.busrq, hs.lines, hs.chips, hs.granted, ?_⟩
    simp [answered, isFault, hs.faults]

/-- Settles O58: the run of each command is a run of a granted bus that ends at rest. -/
theorem ownedCommandsStayClean : Obligations.OwnedCommandsStayClean := by
  intro i s ho hw ha hi
  cases i
  case grab =>
    obtain ⟨t, he, hfault, hclean, -⟩ := grab_owned ho hw
    exact ⟨t, he, hfault, hclean⟩
  case readMem a =>
    obtain ⟨t, d, he, -, hq, ht, -⟩ := exec_readMem_owned ho hw a ha
    exact ⟨t, he, cleanOwned_of_transacted ho he rfl (fun _ => rfl) hq ht⟩
  case writeMem a v =>
    obtain ⟨t, he, -, hq, ht, -, -⟩ := exec_writeMem_owned ho hw a v ha
    exact ⟨t, he, cleanOwned_of_transacted ho he rfl (fun _ => rfl) hq ht⟩
  case readIo port =>
    obtain ⟨t, he, hq, ht⟩ := exec_readIo_owned ho hw port ha
    exact ⟨t, he, cleanOwned_of_transacted ho he rfl (fun _ => rfl) hq ht⟩
  case writeIo port v =>
    obtain ⟨t, he, hq, ht⟩ := exec_writeIo_owned ho hw port v ha
    exact ⟨t, he, cleanOwned_of_transacted ho he rfl (fun _ => rfl) hq ht⟩
  case readRawAddr =>
    obtain ⟨t, he, hq, ht⟩ := exec_readRawAddr_owned ho hw ha
    exact ⟨t, he, cleanOwned_of_transacted ho he rfl (fun _ => rfl) hq ht⟩
  case readRawData =>
    obtain ⟨t, he, hq, ht⟩ := exec_readRawBank_owned ho hw (.inl ⟨rfl, rfl⟩) ha
    exact ⟨t, he, cleanOwned_of_transacted ho he rfl (fun _ => rfl) hq ht⟩
  case readRawCtrl =>
    obtain ⟨t, he, hq, ht⟩ := exec_readRawBank_owned ho hw (.inr ⟨rfl, rfl⟩) ha
    exact ⟨t, he, cleanOwned_of_transacted ho he rfl (fun _ => rfl) hq ht⟩
  all_goals exact hi.elim

/-! ## Memory from `CleanOwned` -/

/-- Settles O47. -/
theorem writeMemStoresOneByte : Obligations.WriteMemStoresOneByte := by
  intro s a v ho hw ha
  obtain ⟨t, he, -, -, ht, hmem, -⟩ := exec_writeMem_owned ho hw a v ha
  exact ⟨t, he, hmem, fun x hx => (ht.mem x).resolve_right fun h => hx h.1⟩

/-- Settles O48: the byte read is the memory's at the end, which the read left as it was where it was determined. -/
theorem readMemReturnsMemory : Obligations.ReadMemReturnsMemory := by
  intro s a ho hw hsim ha
  obtain ⟨t, d, he, hresp, -, ht, hmem⟩ := exec_readMem_owned ho hw a ha
  refine ⟨t, d, he, hresp, fun v hv => ?_, hmem hsim, fun x hx => (ht.mem x).resolve_right fun h => hx h.1⟩
  exact Option.some_inj.1 ((hmem hsim).symm.trans (ht.mem.keeps hv))

/-- Settles O49: the write leaves `CleanOwned`, from which the read returns the byte of memory. -/
theorem writeThenReadRoundTrip : Obligations.WriteThenReadRoundTrip := by
  intro s a v ho hw hsim ha
  obtain ⟨t, he, hresp, hq, ht, hmem, hdraws⟩ := exec_writeMem_owned ho hw a v fun i hi => ha i (by omega)
  obtain ⟨-, hclean⟩ := cleanOwned_of_transacted ho he rfl (fun _ => rfl) hq ht
  have hp : t.params = s.params := exec_keeps keeps_params he
  obtain ⟨u, d, hu, huresp, huv, -⟩ := readMemReturnsMemory t a hclean (by rw [hp]; exact hw) (by rw [hp]; exact hsim)
    fun i hi => by rw [hdraws]; exact ha _ (by omega)
  exact ⟨t, u, he, hu, hresp, by rw [huresp, huv v hmem]⟩

theorem sparesGrant_assertActs {p : Params} {l : Line} (hl : l ≠ .busrq ∧ l ≠ .reset) : ∀ a ∈ assertActs p l, a.SparesGrant := by
  simp [assertActs, Action.SparesGrant, hl]

theorem sparesGrant_releaseActs {p : Params} {l : Line} (hl : l ≠ .busrq ∧ l ≠ .reset) :
    ∀ a ∈ releaseActs p l, a.SparesGrant := by
  unfold releaseActs
  split <;> simp [Action.SparesGrant, hl]

/-- A command whose run acts on pins alone, other than BUSRQ's and RESET's, leaves the memory of an owned bus as it is. -/
theorem pins_keep_memory {i : Instr} {s : State} {g : State → State} {n : Nat} {acts : List Action} (ho : cleanOwned s = true)
    (hw : defaultWiring s.params = true) (hi : isCommand i = true)
    (hbody : ∀ q, commandBody i (setSeq q s) = noData (act g) (setSeq q s))
    (h : Answers s.params 0 n (act g) fun _ as f => as = acts ∧ KeepsReport f) (hspare : ∀ a ∈ acts, a.SparesGrant)
    (hchips : ∀ a ∈ acts, ∀ e, a.chips s.params e = e) : ∃ t, exec i s = .next t ∧ t.mem = s.mem := by
  have hreg := registryOk_of_defaultWiring hw
  obtain ⟨t, acts', f, he, had, rfl, -⟩ := exec_noData hi hreg hbody h (fun _ _ h => h.2) (not_lt_zero_answered s)
  exact ⟨t, he, (had.path.calm (busBanks_of_registryOk hreg) (fun a ha => .inr ⟨hspare a ha, hchips a ha⟩)
    ((cleanOwned_iff.1 ho).atRest hw).toCalm).2.2⟩

theorem chips_mem_assertActs {p : Params} {l : Line} : ∀ a ∈ assertActs p l, ∀ e, a.chips p e = e := by
  simp [assertActs, Action.chips]

theorem chips_mem_releaseActs {p : Params} {l : Line} : ∀ a ∈ releaseActs p l, ∀ e, a.chips p e = e := by
  unfold releaseActs
  split <;> simp [Action.chips]

theorem setWait_keeps_memory {s : State} (ho : cleanOwned s = true) (hw : defaultWiring s.params = true) (active : Bool) :
    ∃ t, exec (.setWait active) s = .next t ∧ t.mem = s.mem := by
  have hbody (q : Option Sequencer) : commandBody (.setWait active) (setSeq q s) =
      noData (setWaitOp active) (setSeq q s) := precheck_passes (cleanOwned_iff.1 ho).configured nofun
  cases active with
  | true =>
    exact pins_keep_memory ho hw rfl hbody (answers_lineAssert .wait) (sparesGrant_assertActs ⟨nofun, nofun⟩)
      chips_mem_assertActs
  | false =>
    exact pins_keep_memory ho hw rfl hbody (answers_lineRelease .wait) (sparesGrant_releaseActs ⟨nofun, nofun⟩)
      chips_mem_releaseActs

theorem controlLine_keeps_memory {s : State} {signal : Byte} (ho : cleanOwned s = true) (hw : defaultWiring s.params = true)
    (hsig : signal ≠ 0x00#8) (pulse : Bool) : ∃ t, exec (.controlLine signal pulse) s = .next t ∧ t.mem = s.mem := by
  cases hl : controlLineOf signal with
  | none =>
    refine ⟨_, (exec_command rfl s).trans (command_of_raise (registryOk_of_defaultWiring hw)
      fun _ => congrFun (controlLineBody_unknown hl pulse) _), rfl⟩
  | some l =>
    have hne : l ≠ .busrq ∧ l ≠ .reset := by
      rw [controlLineOf, if_neg hsig] at hl
      split_ifs at hl <;> obtain rfl := Option.some_inj.1 hl <;> exact ⟨nofun, nofun⟩
    have hbody (q : Option Sequencer) : commandBody (.controlLine signal pulse) (setSeq q s) =
        noData (act (pulseLine l pulse)) (setSeq q s) :=
      (congrFun (controlLineBody_known hl pulse) _).trans (precheck_passes (cleanOwned_iff.1 ho).configured nofun)
    refine pins_keep_memory ho hw rfl hbody (answers_pulseLine l pulse) (fun a ha => ?_) fun a ha => ?_
    all_goals
      rcases List.mem_append.1 ha with ha | ha
    · exact sparesGrant_assertActs hne a ha
    · cases pulse with
      | false => cases ha
      | true => exact sparesGrant_releaseActs hne a ha
    · exact chips_mem_assertActs a ha
    · cases pulse with
      | false => cases ha
      | true => exact chips_mem_releaseActs a ha

/-- Settles O50: nothing is stored on a granted bus without a memory write's strobes. -/
theorem ownedCommandsKeepMemory : Obligations.OwnedCommandsKeepMemory := by
  intro i s ho hw ha hi
  cases i
  case readMem a =>
    obtain ⟨t, d, he, -, -, ht, -⟩ := exec_readMem_owned ho hw a ha
    refine ⟨t, he, fun x => (ht.mem x).imp_right ?_⟩
    rintro ⟨rfl, hx⟩
    exact ⟨hx, a, rfl, rfl⟩
  case grab =>
    obtain ⟨t, he, -, -, hmem⟩ := grab_owned ho hw
    exact ⟨t, he, fun x => .inl (by rw [hmem])⟩
  case readIo port =>
    obtain ⟨t, he, -, ht⟩ := exec_readIo_owned ho hw port ha
    exact ⟨t, he, fun x => .inl (by rw [ht.mem])⟩
  case writeIo port v =>
    obtain ⟨t, he, -, ht⟩ := exec_writeIo_owned ho hw port v ha
    exact ⟨t, he, fun x => .inl (by rw [ht.mem])⟩
  case readRawAddr =>
    obtain ⟨t, he, -, ht⟩ := exec_readRawAddr_owned ho hw ha
    exact ⟨t, he, fun x => .inl (by rw [ht.mem])⟩
  case readRawData =>
    obtain ⟨t, he, -, ht⟩ := exec_readRawBank_owned ho hw (.inl ⟨rfl, rfl⟩) ha
    exact ⟨t, he, fun x => .inl (by rw [ht.mem])⟩
  case readRawCtrl =>
    obtain ⟨t, he, -, ht⟩ := exec_readRawBank_owned ho hw (.inr ⟨rfl, rfl⟩) ha
    exact ⟨t, he, fun x => .inl (by rw [ht.mem])⟩
  case setWait active =>
    obtain ⟨t, he, hmem⟩ := setWait_keeps_memory ho hw active
    exact ⟨t, he, fun x => .inl (by rw [hmem])⟩
  case controlLine signal pulse =>
    obtain ⟨t, he, hmem⟩ := controlLine_keeps_memory ho hw hi pulse
    exact ⟨t, he, fun x => .inl (by rw [hmem])⟩
  all_goals exact hi.elim

end Sys2Proof.Machine

/-! # A quiet environment (R41, R52, 10_state.md section 4)

While no party but the block drives a strobe, the CPU stores nothing, and the block does not drive MREQ, the memory is as it
was. -/

namespace Sys2Proof.Machine

/-- An action that makes no line of a control bank an output on which MREQ is. -/
def Action.SparesMreq (p : Params) : Action → Prop
  | .write _ r v => r = .iodir .portB → 0x10#8 &&& outputBits p v = 0#8
  | .failWrite _ _ _ _ => False
  | _ => True

theorem sparesMreq_chips {p : Params} (hw : Wired p) {e : Expanders} {a : Action} (ha : a.SparesMreq p)
    (h : 0x10#8 &&& drives p e (bankOf p .ctrl) = 0#8) : 0x10#8 &&& drives p (a.chips p e) (bankOf p .ctrl) = 0#8 := by
  cases a
  case write c r v =>
    rw [drives, Action.chips, bankRegs_writeReg]
    split
    next =>
      rw [hw.ctrl] at h ⊢
      cases r
      case iodir k =>
        simp only [writeBankRegs]
        split
        next hk => exact ha (by rw [hk])
        next => exact h
      case iocon => exact h
      all_goals
        simp only [writeBankRegs]
        split <;> exact h
    next => exact h
  case failWrite => exact ha.elim
  all_goals exact h

/-- A run under quiet draws that spares MREQ leaves the memory as it is. -/
theorem Path.quiet {p : Params} {acts : List Action} {s t : State} (hw : Wired p) (h : Path acts s t)
    (ha : ∀ a ∈ acts, a.SparesMreq p) (hp : s.params = p) (hs : 0x10#8 &&& drives p s.chips (bankOf p .ctrl) = 0#8)
    (hq : ∀ i < portCount acts, quietDraw p (drawAt s i)) :
    t.mem = s.mem ∧ 0x10#8 &&& drives p t.chips (bankOf p .ctrl) = 0#8 := by
  induction h with
  | same hworld => exact ⟨hworld.mem, hworld.chips ▸ hs⟩
  | @step acts a s' m' t' h hstep ih =>
    rw [portCount_append] at hq
    obtain ⟨hmem, hm⟩ := ih (fun x hx => ha x (List.mem_append_left _ hx)) hp hs fun i hi => hq i (by omega)
    cases hport : a.isPort with
    | false =>
      have hworld := hstep.entry hport
      exact ⟨hworld.mem.trans hmem, hworld.chips ▸ hm⟩
    | true =>
      obtain ⟨n, hn⟩ := hstep.bus hport
      have hpm : m'.params = p := h.ended.params.trans hp
      have hpn : n.params = p := hn.params.trans hpm
      have hdraw : drawAt m' 0 = drawAt s' (portCount acts) := h.ended.draws 0
      have hquiet : quietDraw p (drawAt m' 0) := by
        rw [hdraw]
        exact hq _ (by simp [portCount, hport])
      have hchips : 0x10#8 &&& drives p n.chips (bankOf p .ctrl) = 0#8 := by
        rw [hn.chips, hpm]
        exact sparesMreq_chips hw (ha a (by simp)) hm
      refine ⟨?_, hn.chips_after ▸ hchips⟩
      rw [hn.mem_after, memoryNow_of_mreq (hpn ▸ hw) (strobesFree_of_quiet (hpn ▸ hw) (hpn ▸ hquiet))
        (by rw [blockDrive_eq, hpn]; exact hchips), hn.mem]
      simp [cpuMoves, hquiet.1, memWriteAll, hmem]

section
variable {p : Params}

theorem sparesMreq_append {as bs : List Action} (ha : ∀ a ∈ as, a.SparesMreq p) (hb : ∀ a ∈ bs, a.SparesMreq p) :
    ∀ a ∈ as ++ bs, a.SparesMreq p := fun a h => (List.mem_append.1 h).elim (ha a) (hb a)

theorem sparesMreq_writeBankActs {id : BankId} {v m : Byte} (h : id.bank = .portB → 0x10#8 &&& m = 0#8) :
    ∀ a ∈ writeBankActs p id v m, a.SparesMreq p := by
  simp only [writeBankActs]
  split <;> simpa [Action.SparesMreq, outputBits_dirVal] using h

theorem sparesMreq_restoreActs (id : BankId) : ∀ a ∈ restoreActs p id, a.SparesMreq p := by
  simp [restoreActs, Action.SparesMreq]

theorem sparesMreq_readBankActs (id : BankId) (v : Byte) : ∀ a ∈ readBankActs p id v, a.SparesMreq p := by
  simp [readBankActs, Action.SparesMreq]

theorem sparesMreq_restoresActs (ids : List BankId) : ∀ a ∈ restoresActs p ids, a.SparesMreq p := fun a ha => by
  obtain ⟨id, -, ha⟩ := List.mem_flatMap.1 ha
  exact sparesMreq_restoreActs id a ha

theorem sparesMreq_assertActs (l : Line) : ∀ a ∈ assertActs p l, a.SparesMreq p := by
  simp [assertActs, Action.SparesMreq]

theorem sparesMreq_releaseActs (l : Line) : ∀ a ∈ releaseActs p l, a.SparesMreq p := by
  unfold releaseActs
  split <;> simp [Action.SparesMreq]

theorem sparesMreq_pulseActs (l : Line) (pulse : Bool) : ∀ a ∈ pulseActs p l pulse, a.SparesMreq p := by
  refine sparesMreq_append (sparesMreq_assertActs l) ?_
  cases pulse
  · exact nofun
  · exact sparesMreq_releaseActs l

theorem sparesMreq_pollActs (polls : List Byte) : ∀ a ∈ pollActs p polls, a.SparesMreq p := fun a ha => by
  obtain ⟨v, -, ha⟩ := List.mem_flatMap.1 ha
  exact sparesMreq_readBankActs _ v a ha

theorem sparesMreq_configureWrites : ∀ a ∈ (configureWrites p).map RegWrite.act, a.SparesMreq p := by
  simp only [configureWrites_acts, List.mem_cons, List.mem_flatMap]
  rintro a (rfl | ⟨c, -, ha⟩)
  · exact nofun
  · simp only [configureChipWrites, List.map_cons, List.map_nil, List.mem_cons, List.not_mem_nil, or_false] at ha
    rcases ha with rfl | rfl | rfl | rfl | rfl | rfl | rfl <;>
      simp [RegWrite.act, Action.SparesMreq]

theorem sparesMreq_configureLineActs (ls : List Line) : ∀ a ∈ configureLineActs p ls, a.SparesMreq p := fun a ha => by
  obtain ⟨l, -, ha⟩ := List.mem_flatMap.1 ha
  rcases List.mem_cons.1 ha with rfl | ha
  · trivial
  · exact sparesMreq_releaseActs l a ha

theorem sparesMreq_strobeRuns {m : Byte} {e : Option Event} {as : List Action} (hm : 0x10#8 &&& m = 0#8)
    (has : as ∈ strobeRuns p m e) : ∀ a ∈ as, a.SparesMreq p := by
  have he : ∀ a ∈ eventActs e, a.SparesMreq p := by cases e <;> simp [eventActs, Action.SparesMreq]
  cases hw : p.writeOrder with
  | latchFirst =>
    simp only [strobeRuns, hw, List.mem_singleton] at has
    rw [has]
    exact sparesMreq_append (sparesMreq_writeBankActs fun _ => hm) he
  | dirFirst =>
    simp only [strobeRuns, hw, List.mem_cons, List.not_mem_nil, or_false] at has
    rcases has with rfl | rfl
    · exact sparesMreq_append (by simp [Action.SparesMreq, outputBits_dirVal, hm]) he
    · exact sparesMreq_append (sparesMreq_append (by simp [Action.SparesMreq, outputBits_dirVal, hm]) he)
        (by simp [Action.SparesMreq])

theorem sparesMreq_cleanupActs {m : Byte} (hm : 0x10#8 &&& m = 0#8) (ids : List BankId) :
    ∀ a ∈ cleanupActs p m ids, a.SparesMreq p :=
  sparesMreq_append (sparesMreq_writeBankActs fun _ => hm) (sparesMreq_restoresActs ids)

variable (hw : Wired p) (port v : Byte)
include hw

theorem sparesMreq_readIoActs : ∀ a ∈ readIoActs p port v, a.SparesMreq p := by
  refine sparesMreq_append (sparesMreq_append (sparesMreq_append (sparesMreq_writeBankActs (by rw [hw.lo]; nofun))
    (sparesMreq_writeBankActs fun _ => by rw [hw.ioRdMask]; rfl)) (sparesMreq_readBankActs _ v)) ?_
  simp [Action.SparesMreq]

theorem sparesMreq_writeIoDrives : ∀ a ∈ writeIoDrives p port v, a.SparesMreq p :=
  sparesMreq_append (sparesMreq_writeBankActs (by rw [hw.lo]; nofun)) (sparesMreq_writeBankActs (by rw [hw.data]; nofun))

end

/-! ## The runs of the commands -/

theorem SameWorld.finish {s : State} (r : Res (BitVec 16 × Byte)) : SameWorld s (finish r s) := by
  rcases finish_cases r s with h | ⟨w, h⟩ <;> rw [h]
  · exact .refl s
  · exact sameWorld_respond w s

theorem mem_of_next {i : Instr} {s t u : State} (he : exec i s = .next t) (h : exec i s = .next u) (hu : u.mem = s.mem) :
    t.mem = s.mem := by
  rw [he] at h
  rw [Host.Outcome.next.inj h, hu]

/-- The run of a command from the run of its body. -/
theorem path_of_body {i : Instr} {s t : State} {r : Res (BitVec 16 × Byte)} {m : State} {acts : List Action}
    {f : Sequencer → Sequencer} (hi : isCommand i = true) (hreg : registryOk s.params = true)
    (hb : commandBody i (setSeq (some (freshSeq i)) s) = (r, m)) (hd : Did acts f (setSeq (some (freshSeq i)) s) m)
    (he : exec i s = .next t) : Path acts s t := by
  have ht := (exec_command hi s).trans (command_of_ok hreg)
  rw [he, hb] at ht
  obtain rfl := Host.Outcome.next.inj ht
  exact ((Path.same (sameWorld_setSeq _ s)).trans hd.path).world (.finish r)

section
variable {i : Instr} {s t : State} (hw : defaultWiring s.params = true) (hs : ctrlUndriven s)
  (hq : ∀ k < 40 + 2 * s.params.grabPollLimit, (drawAt s k).xfer = .ok ∧ quietDraw s.params (drawAt s k))
include hw hs hq

theorem mem_of_quiet_path {acts : List Action} (h : Path acts s t) (ha : ∀ a ∈ acts, a.SparesMreq s.params)
    (hn : portCount acts ≤ 40 + 2 * s.params.grabPollLimit) : t.mem = s.mem := by
  have hctrl : 0x10#8 &&& drives s.params s.chips (bankOf s.params .ctrl) = 0#8 := by rw [← blockDrive_eq, hs]; rfl
  exact (h.quiet (wired_of_defaultWiring hw) ha rfl hctrl fun i hi => (hq i (by omega)).2).1

/-- A command whose run is known when it is configured, and spares MREQ. -/
theorem mem_of_answers {o : Op (BitVec 16 × Byte)} {r n : Nat}
    {Q : BitVec 16 × Byte → List Action → (Sequencer → Sequencer) → Prop} (hi : needsConfigure i = true)
    (hi' : isCommand i = true) (hbody : s.configured = true → ∀ q, commandBody i (setSeq q s) = o (setSeq q s))
    (h : Answers s.params r n o Q) (hr : r ≤ 40) (hn : n ≤ 40)
    (hQ : ∀ v acts f, Q v acts f → ∀ a ∈ acts, a.SparesMreq s.params) (he : exec i s = .next t) : t.mem = s.mem := by
  have hreg := registryOk_of_defaultWiring hw
  cases hc : s.configured with
  | false =>
    exact mem_of_next he (notConfiguredBeforeAnything i s hi hreg hc) rfl
  | true =>
    obtain ⟨v, m, acts, f, e, hd, hcount, hv⟩ := h (setSeq (some (freshSeq i)) s) rfl nofun fun k hk => (hq k (by omega)).1
    exact mem_of_quiet_path hw hs hq (path_of_body hi' hreg ((hbody hc _).trans e) hd he) (hQ v acts f hv) (by omega)

theorem mem_of_checked {o : Op (BitVec 16 × Byte)} {r n : Nat}
    {Q : BitVec 16 × Byte → List Action → (Sequencer → Sequencer) → Prop} (hi : needsConfigure i = true)
    (hi' : isCommand i = true) (hbody : commandBody i = precheck false o) (h : Answers s.params r n o Q) (hr : r ≤ 40)
    (hn : n ≤ 40) (hQ : ∀ v acts f, Q v acts f → ∀ a ∈ acts, a.SparesMreq s.params) (he : exec i s = .next t) :
    t.mem = s.mem :=
  mem_of_answers hw hs hq hi hi' (fun hc q => by rw [hbody]; exact precheck_passes hc nofun) h hr hn hQ he

/-- A micro-op whose run spares MREQ. -/
theorem mem_of_micro {α : Type} {o : Op α} {g : α → UopResult} {n : Nat}
    {Q : α → List Action → (Sequencer → Sequencer) → Prop} (h : Answers s.params n n o Q) (hn : n ≤ 40)
    (hQ : ∀ v acts f, Q v acts f → (∀ a ∈ acts, a.SparesMreq s.params) ∧ portCount acts ≤ 40)
    (he : microOp i (andThen o fun v => result (g v)) s = .next t) : t.mem = s.mem := by
  obtain ⟨v, t', acts, f, he', -, hperf, hv⟩ := micro_answers (i := i) g (registryOk_of_defaultWiring hw) h
    fun k hk => (hq k (by omega)).1
  rw [he] at he'
  obtain rfl := Host.Outcome.next.inj he'
  obtain ⟨hspare, hcount⟩ := hQ v acts f hv
  exact mem_of_quiet_path hw hs hq hperf.path hspare (by omega)

theorem mem_configure (he : exec .configure s = .next t) : t.mem = s.mem := by
  have hchips : (chipsOf s.params.numChips).length ≤ 3 := by cases s.params.numChips <;> decide
  obtain ⟨m, f, e, -, hd⟩ := did_configureOp (p := s.params) (s := setSeq (some (freshSeq .configure)) s) rfl
    fun k hk => (hq k (by omega)).1
  have hb : commandBody .configure (setSeq (some (freshSeq .configure)) s) = (.ok (0#16, 0#8), m) := noData_of_ok e
  refine mem_of_quiet_path hw hs hq (path_of_body rfl (registryOk_of_defaultWiring hw) hb hd he)
    (sparesMreq_append sparesMreq_configureWrites (sparesMreq_configureLineActs allLines)) ?_
  have hwrites : portCount ((configureWrites s.params).map RegWrite.act) = (configureWrites s.params).length := by
    simp [portCount, RegWrite.act, Action.isPort, List.filter_map, Function.comp_def]
  have hlines : portCount (configureLineActs s.params allLines) = 10 := by
    simp only [configureLineActs, (wired_of_defaultWiring hw).releaseActs, allLines]
    rfl
  rw [portCount_append, hwrites, hlines, length_configureWrites]
  omega

theorem mem_grab (he : exec .grab s = .next t) : t.mem = s.mem := by
  have hreg := registryOk_of_defaultWiring hw
  cases hc : s.configured with
  | false =>
    exact mem_of_next he (notConfiguredBeforeAnything .grab s rfl hreg hc) rfl
  | true =>
    cases harb : s.arb with
    | owned =>
      exact mem_of_next he (grabWhileOwned s hreg hc harb) rfl
    | released =>
      have hbody : commandBody .grab (setSeq (some (freshSeq .grab)) s) = noData grabOp (setSeq (some (freshSeq .grab)) s) :=
        precheck_passes hc nofun
      obtain ⟨b, polls, m, f, hpolled, -, hcase⟩ := did_grabOp (p := s.params) (s := setSeq (some (freshSeq .grab)) s) rfl harb
        fun k hk => (hq k (by omega)).1
      have hlen := hpolled.length_le
      have hassert : portCount (assertActs s.params .busrq) = 2 := rfl
      have hrelease : portCount (releaseActs s.params .busrq) = 1 := by
        rw [(wired_of_defaultWiring hw).releaseActs]; rfl
      have hsplit := sparesMreq_append (sparesMreq_assertActs (p := s.params) .busrq) (sparesMreq_pollActs polls)
      rcases hcase with ⟨-, e, -, hd, -⟩ | ⟨-, e, -, hd, -⟩
      · refine mem_of_quiet_path hw hs hq (path_of_body rfl hreg (hbody.trans (noData_of_ok e)) hd he) hsplit ?_
        rw [portCount_append, portCount_pollActs, hassert]
        omega
      · refine mem_of_quiet_path hw hs hq (path_of_body (r := .failed .busGrantTimeout) rfl hreg
          (hbody.trans (by simp only [noData, andThen, e])) hd he) (sparesMreq_append hsplit (sparesMreq_releaseActs .busrq)) ?_
        rw [portCount_append, portCount_append, portCount_pollActs, hassert, hrelease]
        omega

theorem mem_release (he : exec .release s = .next t) : t.mem = s.mem := by
  have hreg := registryOk_of_defaultWiring hw
  cases hc : s.configured with
  | false =>
    exact mem_of_next he (notConfiguredBeforeAnything .release s rfl hreg hc) rfl
  | true =>
    obtain ⟨t', he', -, -, -, hperf⟩ := exec_release hreg hc fun k hk => by rw [(hq k (by omega)).1]; nofun
    rw [he] at he'
    obtain rfl := Host.Outcome.next.inj he'
    have hle := portCount_release_le s.params fun i => (drawAt s i).xfer
    have hpath := hperf.path
    rw [triesActs_of_ok (ids := restoreOrder s.params) fun i hi => (hq i (by simp [restoreOrder] at hi; omega)).1] at hpath hle
    exact mem_of_quiet_path hw hs hq hpath (sparesMreq_append (sparesMreq_restoresActs _) (sparesMreq_releaseActs .busrq))
      (by omega)

/-- A transaction before the bus is owned answers an error and nothing else. -/
theorem mem_transaction {o : Op (BitVec 16 × Byte)} {n : Nat}
    {Q : BitVec 16 × Byte → List Action → (Sequencer → Sequencer) → Prop} (hi : isTransaction i = true)
    (hbody : commandBody i = precheck true o) (h : Answers s.params n n o Q) (hn : n ≤ 40)
    (hQ : ∀ v acts f, Q v acts f → ∀ a ∈ acts, a.SparesMreq s.params) (he : exec i s = .next t) : t.mem = s.mem := by
  have hreg := registryOk_of_defaultWiring hw
  have hi' : needsConfigure i = true ∧ isCommand i = true := by
    cases i
    case readMem | writeMem | readIo | writeIo => exact ⟨rfl, rfl⟩
    all_goals cases hi
  cases harb : s.arb with
  | owned =>
    exact mem_of_answers hw hs hq hi'.1 hi'.2 (fun hc q => transaction_body hbody hc harb q) h hn hn hQ he
  | released =>
    obtain ⟨hnot, hrel⟩ := transactionPrecondition i s hi hreg
    cases hc : s.configured with
    | false =>
      exact mem_of_next he (hnot hc) rfl
    | true =>
      exact mem_of_next he (hrel hc harb) rfl

theorem mem_readIo {port : Byte} (he : exec (.readIo port) s = .next t) : t.mem = s.mem := by
  have hwired := wired_of_defaultWiring hw
  have hb := busBanks_of_registryOk (registryOk_of_defaultWiring hw)
  refine mem_transaction hw hs hq rfl rfl (answers_map (fun v => (0#16, v)) (answers_readIoOp port hb)) (by omega) ?_ he
  rintro _ acts f ⟨v, -, rfl, -⟩
  exact sparesMreq_append (sparesMreq_readIoActs hwired port v) (sparesMreq_cleanupActs (by rw [hwired.ioRdMask]; rfl) _)

theorem mem_writeIo {port v : Byte} (he : exec (.writeIo port v) s = .next t) : t.mem = s.mem := by
  have hwired := wired_of_defaultWiring hw
  have hb := busBanks_of_registryOk (registryOk_of_defaultWiring hw)
  refine mem_transaction hw hs hq rfl rfl (answers_map (fun _ => (0#16, 0#8)) (answers_writeIoOp port v hb)) (by omega) ?_ he
  rintro _ acts f ⟨-, -, ⟨as, has, rfl⟩, -⟩
  have hm : 0x10#8 &&& ioWrMask s.params = 0#8 := by rw [hwired.ioWrMask]; rfl
  exact sparesMreq_append (sparesMreq_append (sparesMreq_writeIoDrives hwired port v) (sparesMreq_strobeRuns hm has))
    (sparesMreq_cleanupActs hm _)

theorem mem_readRawAddr (he : exec .readRawAddr s = .next t) : t.mem = s.mem := by
  refine mem_of_checked hw hs hq rfl rfl rfl
    (answers_map (fun a => (a, 0#8)) answers_readRawAddrOp) (by omega) (by omega) ?_ he
  rintro _ acts f ⟨v, -, ⟨hi, lo, -, rfl⟩, -⟩
  exact sparesMreq_append (sparesMreq_readBankActs _ lo) (sparesMreq_readBankActs _ hi)

theorem mem_readRawBank {n : SignalName} (hi : i = .readRawData ∧ n = .data ∨ i = .readRawCtrl ∧ n = .ctrl)
    (he : exec i s = .next t) : t.mem = s.mem := by
  have hframe : needsConfigure i = true ∧ isCommand i = true ∧ commandBody i = precheck false (inD8 (readRawBankOp n)) := by
    rcases hi with ⟨rfl, rfl⟩ | ⟨rfl, rfl⟩ <;> exact ⟨rfl, rfl, rfl⟩
  obtain ⟨hn, hc, hbody⟩ := hframe
  refine mem_of_checked hw hs hq hn hc hbody
    (answers_map (fun v => (0#16, v)) (answers_readRawBankOp n)) (by omega) (by omega) ?_ he
  rintro _ acts f ⟨v, -, rfl, -⟩
  exact sparesMreq_readBankActs _ v

theorem mem_setWait {active : Bool} (he : exec (.setWait active) s = .next t) : t.mem = s.mem := by
  cases active with
  | true =>
    refine mem_of_checked hw hs hq rfl rfl rfl
      (answers_map (fun _ => (0#16, 0#8)) (answers_lineAssert .wait)) (by omega) (by omega) ?_ he
    rintro _ acts f ⟨-, -, rfl, -⟩
    exact sparesMreq_assertActs .wait
  | false =>
    refine mem_of_checked hw hs hq rfl rfl rfl
      (answers_map (fun _ => (0#16, 0#8)) (answers_lineRelease .wait)) (by omega)
      (by rw [(wired_of_defaultWiring hw).releaseActs]; decide) ?_ he
    rintro _ acts f ⟨-, -, rfl, -⟩
    exact sparesMreq_releaseActs .wait

theorem mem_controlLine {signal : Byte} {pulse : Bool} (he : exec (.controlLine signal pulse) s = .next t) :
    t.mem = s.mem := by
  cases hl : controlLineOf signal with
  | none =>
    exact mem_of_next he ((exec_command rfl s).trans (command_of_raise (registryOk_of_defaultWiring hw)
      fun _ => congrFun (controlLineBody_unknown hl pulse) _)) rfl
  | some l =>
    refine mem_of_checked (i := .controlLine signal pulse) hw hs hq (by simp [needsConfigure, hl]) rfl
      (controlLineBody_known hl pulse)
      (answers_map (fun _ => (0#16, 0#8)) (answers_pulseLine l pulse)) (by omega) ?_ ?_ he
    · rw [pulseActs, (wired_of_defaultWiring hw).releaseActs, (wired_of_defaultWiring hw).assertActs]
      cases pulse <;> exact Nat.le_of_ble_eq_true rfl
    · rintro _ acts f ⟨-, -, rfl, -⟩
      exact sparesMreq_pulseActs l pulse

/-- A micro-op on a bank, by the runs of its operation. -/
theorem mem_bankMicro {α : Type} {o : BankId → Op α} {g : α → UopResult} {c : BitVec 2} {k : Bank} {n : Nat}
    {Q : BankId → α → List Action → (Sequencer → Sequencer) → Prop} (hi : isCommand i = false)
    (hbody : microBody s i = (uopBankId s c k).map fun id => andThen (o id) fun v => result (g v))
    (h : ∀ id, Answers s.params n n (o id) (Q id)) (hn : n ≤ 40)
    (hQ : ∀ id v acts f, id.bank = k → Q id v acts f → (∀ a ∈ acts, a.SparesMreq s.params) ∧ portCount acts ≤ 40)
    (he : exec i s = .next t) : t.mem = s.mem := by
  obtain ⟨body, hb, hm⟩ := exec_micro_next hi he
  rw [hbody, Option.map_eq_some_iff] at hb
  obtain ⟨id, hid, rfl⟩ := hb
  have hk : id.bank = k := by
    unfold uopBankId at hid
    split at hid
    · split at hid
      · obtain rfl := Option.some_inj.1 hid; rfl
      · cases hid
    · cases hid
  exact mem_of_micro hw hs hq (h id) hn (fun v acts f hv => hQ id v acts f hk hv) hm

theorem mem_lineMicro {g : Line → State → State} {code : BitVec 3} {acts : Line → List Action}
    (hi : isCommand i = false)
    (hbody : microBody s i = (lineOfCode code).map fun l => andThen (act (g l)) fun _ => result .done)
    (h : ∀ l, Answers s.params 0 (portCount (acts l)) (act (g l)) fun _ as f => as = acts l ∧ KeepsReport f)
    (hspare : ∀ l, ∀ a ∈ acts l, a.SparesMreq s.params) (hcount : ∀ l, portCount (acts l) ≤ 40)
    (he : exec i s = .next t) : t.mem = s.mem := by
  obtain ⟨body, hb, hm⟩ := exec_micro_next hi he
  rw [hbody, Option.map_eq_some_iff] at hb
  obtain ⟨l, -, rfl⟩ := hb
  obtain ⟨v, t', as, f, he', -, hperf, rfl, -⟩ := micro_answers (i := i) (fun _ => UopResult.done)
    (registryOk_of_defaultWiring hw) (h l) (not_lt_zero_answered s)
  rw [hm] at he'
  obtain rfl := Host.Outcome.next.inj he'
  exact mem_of_quiet_path hw hs hq hperf.path (hspare l) ((hcount l).trans (by omega))

end

/-- Settles O51: each run of the listed instructions spares MREQ, and is shorter than the quiet environment. -/
theorem quietCommandsKeepMemory : Obligations.QuietCommandsKeepMemory := by
  intro i s t hw hs hq hi he
  have hwired := wired_of_defaultWiring hw
  cases i
  case configure => exact mem_configure hw hs hq he
  case grab => exact mem_grab hw hs hq he
  case release => exact mem_release hw hs hq he
  case readIo port => exact mem_readIo hw hs hq he
  case writeIo port v => exact mem_writeIo hw hs hq he
  case readRawAddr => exact mem_readRawAddr hw hs hq he
  case readRawData => exact mem_readRawBank hw hs hq (.inl ⟨rfl, rfl⟩) he
  case readRawCtrl => exact mem_readRawBank hw hs hq (.inr ⟨rfl, rfl⟩) he
  case setWait active => exact mem_setWait hw hs hq he
  case controlLine signal pulse => exact mem_controlLine hw hs hq he
  case readBank c k =>
    refine mem_bankMicro (g := .value) hw hs hq rfl rfl (fun id => answers_readBank id) (by omega) ?_ he
    rintro id v acts f - ⟨rfl, -⟩
    exact ⟨sparesMreq_readBankActs id v, Nat.le_of_ble_eq_true rfl⟩
  case writeBank c k value mask =>
    refine mem_bankMicro (g := fun _ => .done) hw hs hq rfl rfl (fun id => answers_writeBank id value mask) (by omega) ?_ he
    rintro id - acts f - ⟨rfl, -⟩
    exact ⟨sparesMreq_writeBankActs fun _ => (BitVec.and_comm ..).trans hi, by rw [portCount_writeBankActs]; decide⟩
  case restoreBank c k =>
    refine mem_bankMicro (g := fun _ => .done) hw hs hq rfl rfl (fun id => answers_restoreBank id) (by omega) ?_ he
    rintro id - acts f - ⟨rfl, -⟩
    exact ⟨sparesMreq_restoreActs id, Nat.le_of_ble_eq_true rfl⟩
  case lineAssert code =>
    exact mem_lineMicro hw hs hq rfl rfl (fun l => answers_lineAssert l) (fun l => sparesMreq_assertActs l)
      (fun l => Nat.le_of_ble_eq_true rfl) he
  case lineRelease code =>
    exact mem_lineMicro hw hs hq rfl rfl (fun l => answers_lineRelease l) (fun l => sparesMreq_releaseActs l)
      (fun l => by rw [hwired.releaseActs]; exact Nat.le_of_ble_eq_true rfl) he
  all_goals exact hi.elim

end Sys2Proof.Machine

/-! # RESET and the hazards of a lost grant (R43, R52, 70_reset_and_hazards.md section 3) -/

namespace Sys2Proof.Machine

/-! ## RESET (R52) -/

/-- A CPU in reset, or due to fetch at address 0, is out of reset and due to fetch at address 0 after an action with RESET
Inactive and no fetch. -/
theorem BusStep.restarts {a : Action} {s n t : State} (h : BusStep a s n t) (ha : a.SparesGrant)
    (hr : ∀ d, lineActive s d .reset = false) (hf : (drawAt s 0).cpuFetch = false)
    (hs : (s.cpu.fetchFromZero || s.cpu.inReset) = true) : t.cpu.inReset = false ∧ t.cpu.fetchFromZero = true := by
  have hbefore : lineActive (dropDraw s) (drawAt s 0) .reset = false :=
    (lineActive_congr (by simp) (by simp) _).trans (hr _)
  rw [h.cpu_after, h.cpu, h.lineActive_spared ha (.inr rfl), hr]
  simp [cpuMoves, hbefore, hf, hs]

theorem Path.restarts {acts : List Action} {s t : State} (h : Path acts s t) (ha : ∀ a ∈ acts, a.SparesGrant)
    (hr : ∀ d, lineActive s d .reset = false) (hf : ∀ i < portCount acts, (drawAt s i).cpuFetch = false)
    (hs : (s.cpu.fetchFromZero || s.cpu.inReset) = true) :
    (∀ d, lineActive t d .reset = false) ∧ (t.cpu.fetchFromZero || t.cpu.inReset) = true ∧
      (0 < portCount acts → t.cpu.inReset = false ∧ t.cpu.fetchFromZero = true) := by
  induction h with
  | same hw =>
    exact ⟨fun d => (lineActive_congr hw.params (by rw [hw.lines]) d).trans (hr d), by rw [hw.cpu, hs],
      fun h => absurd h (Nat.lt_irrefl 0)⟩
  | @step acts a s' m' t' h hstep ih =>
    rw [portCount_append] at hf ⊢
    obtain ⟨hmr, hm, hlast⟩ := ih (fun x hx => ha x (List.mem_append_left _ hx)) hr (fun i hi => hf i (by omega)) hs
    cases hport : a.isPort with
    | false =>
      have hw := hstep.entry hport
      have hcount : portCount [a] = 0 := by simp [portCount, hport]
      refine ⟨fun d => (lineActive_congr hw.params (by rw [hw.lines]) d).trans (hmr d), by rw [hw.cpu, hm], fun hpos => ?_⟩
      rw [hw.cpu]
      exact hlast (by omega)
    | true =>
      obtain ⟨n, hn⟩ := hstep.bus hport
      have hdraw : drawAt m' 0 = drawAt s' (portCount acts) := h.ended.draws 0
      have hafter := hn.restarts (ha a (by simp)) hmr
        (by rw [hdraw]; exact hf _ (by simp [portCount, hport])) hm
      refine ⟨fun d => ?_, by rw [hafter.2]; rfl, fun _ => hafter⟩
      rw [lineActive_congr (t := t') (s := n) (hn.params_after.trans hn.params.symm) (by rw [hn.lines_after]),
        hn.lineActive_spared (ha a (by simp)) (.inr rfl), hmr]

theorem lineActive_pulledUp {s : State} {l : Line} (hl : activeLevel s.params (lineSignal l) = false)
    (hd : (ofLine s.lines l).dir = .input) (hp : (ofLine s.lines l).pullUp = true) (d : Draw) :
    lineActive s d l = false := by
  rw [lineActive, lineLevel_of_pullUp hd hp, hl]
  rfl

theorem lineActive_low {s : State} {l : Line} (hl : activeLevel s.params (lineSignal l) = false)
    (hd : (ofLine s.lines l).dir = .output) (ho : (ofLine s.lines l).out = false) (d : Draw) :
    lineActive s d l = true := by
  rw [lineActive, lineLevel_of_output hd, ho, hl]
  rfl

/-- The end of the assert of RESET takes the grant away and puts the CPU in reset. -/
theorem assertReset_path {s t : State} (hl : activeLevel s.params .reset = false) (hp : s.lines.reset.pullUp = true)
    (h : Path (assertActs s.params .reset) s t) : t.cpu.granted = false ∧ t.cpu.inReset = true ∧
      t.params = s.params ∧ t.lines.reset = ⟨.output, false, true⟩ := by
  have hacts : assertActs s.params .reset = [.level .reset false] ++ [.dir .reset .output] := by
    simp [assertActs, lineSignal, hl]
  rw [hacts] at h
  obtain ⟨m, hlevel, hdir⟩ := h.snoc
  obtain ⟨n, hn⟩ := hdir.bus rfl
  have hm := hlevel.ended
  have hlines : n.lines.reset = ⟨.output, false, true⟩ := by
    rw [hn.lines, hm.lines]
    simp [Action.lines, withLine, ofLine, hp]
  have hactive : lineActive n (drawAt m 0) .reset = true :=
    lineActive_low (by rw [hn.params, hm.params]; exact hl) (by rw [show ofLine n.lines .reset = _ from hlines])
      (by rw [show ofLine n.lines .reset = _ from hlines]) _
  have hcpu := hn.cpu_after.trans hn.cpu
  rw [hactive] at hcpu
  refine ⟨by rw [hcpu]; rfl, by rw [hcpu]; rfl, hn.params_after.trans hm.params, ?_⟩
  rw [hn.lines_after, hlines]

/-- The release of RESET brings the CPU out of reset, due to fetch at address 0. -/
theorem releaseReset_path {s t : State} (hl : activeLevel s.params .reset = false)
    (hlines : s.lines.reset = ⟨.output, false, true⟩)
    (h : Path (releaseActs s.params .reset) s t) :
    t.cpu.granted = false ∧ t.cpu.inReset = false ∧ t.cpu.fetchFromZero = true := by
  have hacts : releaseActs s.params .reset = [.dir .reset .input] := by simp [releaseActs, lineSignal, hl]
  rw [hacts] at h
  obtain ⟨m, hw, hdir⟩ := h.one
  obtain ⟨n, hn⟩ := hdir.bus rfl
  have hreset : n.lines.reset = ⟨.input, false, true⟩ := by
    rw [hn.lines, hw.lines]
    simp [Action.lines, withLine, ofLine, hlines]
  have hinactive : lineActive n (drawAt m 0) .reset = false :=
    lineActive_pulledUp (by rw [hn.params, hw.params]; exact hl) (by rw [show ofLine n.lines .reset = _ from hreset])
      (by rw [show ofLine n.lines .reset = _ from hreset]) _
  have hbefore : lineActive (dropDraw m) (drawAt m 0) .reset = true :=
    lineActive_low (by rw [dropDraw_params, hw.params]; exact hl) (by simp [ofLine, hw.lines, hlines]) (by simp [ofLine, hw.lines, hlines]) _
  have hcpu := hn.cpu_after.trans hn.cpu
  rw [hinactive] at hcpu
  rw [hcpu]
  simp [cpuMoves, hbefore, nextGranted, resetSeen]

/-- Settles O36: RESET is seen at every port action. -/
theorem resetPulseRestartsCpu : Obligations.ResetPulseRestartsCpu := by
  refine ⟨fun s active hreg hc hr hl hdir hpull hf => ?_, fun s pulse hreg hc hl hpull => ?_⟩
  · have hbody (q : Option Sequencer) : commandBody (.setWait active) (setSeq q s) =
        noData (setWaitOp active) (setSeq q s) := precheck_passes hc nofun
    have hinactive : ∀ d, lineActive s d .reset = false := lineActive_pulledUp hl hdir hpull
    have hend : ∀ {t : State} {acts : List Action}, Path acts s t → (∀ a ∈ acts, a.SparesGrant) → 0 < portCount acts →
        portCount acts ≤ 2 → t.cpu.inReset = false ∧ t.cpu.fetchFromZero = true := fun h ha hpos hle =>
      (h.restarts ha hinactive (fun i hi => hf i (by omega)) (by rw [hr, Bool.or_true])).2.2 hpos
    cases active with
    | true =>
      obtain ⟨t, acts, f, he, had, rfl, -⟩ := exec_noData rfl hreg hbody (answers_lineAssert .wait) (fun _ _ h => h.2)
        (not_lt_zero_answered s)
      exact ⟨t, he, hend had.path (sparesGrant_assertActs ⟨nofun, nofun⟩) (Nat.le_of_ble_eq_true rfl)
        (Nat.le_of_ble_eq_true rfl)⟩
    | false =>
      obtain ⟨t, acts, f, he, had, rfl, -⟩ := exec_noData rfl hreg hbody (answers_lineRelease .wait) (fun _ _ h => h.2)
        (not_lt_zero_answered s)
      refine ⟨t, he, hend had.path (sparesGrant_releaseActs ⟨nofun, nofun⟩) ?_ ?_⟩ <;>
        unfold releaseActs <;> split <;> exact Nat.le_of_ble_eq_true rfl
  · have hknown : controlLineOf 0x00#8 = some .reset := rfl
    have hbody (q : Option Sequencer) : commandBody (.controlLine 0x00#8 pulse) (setSeq q s) =
        noData (act (pulseLine .reset pulse)) (setSeq q s) :=
      (congrFun (controlLineBody_known hknown pulse) _).trans (precheck_passes hc nofun)
    obtain ⟨t, acts, f, he, had, rfl, -⟩ := exec_noData rfl hreg hbody (answers_pulseLine .reset pulse) (fun _ _ h => h.2)
      (not_lt_zero_answered s)
    obtain ⟨m, hassert, hrelease⟩ := had.path.split
    obtain ⟨hg, hr, hp, hlines⟩ := assertReset_path hl hpull hassert
    cases pulse with
    | false =>
      have hw := path_nil hrelease
      exact ⟨t, he, by rw [hw.cpu, hg], by rw [hw.cpu, hr]; rfl, nofun⟩
    | true =>
      rw [if_pos rfl, ← hp] at hrelease
      obtain ⟨hg', hr', hz⟩ := releaseReset_path (by rw [hp]; exact hl) hlines hrelease
      exact ⟨t, he, hg', hr', fun _ => hz⟩

/-! ## Contention (R43, R370, R371) -/

theorem contention_mem {s : State} {d : Draw} {id : BankId} (hid : chipPresent s.params.numChips id.chip = true)
    (h : bankContention s d id ≠ 0#8) : Event.contention id (bankContention s d id) ∈ contentionEvents s d :=
  List.mem_filterMap.2 ⟨id, mem_banksOf.2 hid, if_neg h⟩

theorem newEvents_mem {s t : State} {new : List Event} {e : Event} (h : HistoryGrows s t)
    (hf : t.history.filter isFault = s.history.filter isFault ++ new) (he : e ∈ new) : e ∈ newEvents s t := by
  obtain ⟨rest, hrest⟩ := h
  rw [← hrest, List.filter_append, List.append_cancel_left_eq] at hf
  rw [newEvents, ← hrest, List.drop_left]
  exact List.mem_of_mem_filter (hf ▸ he)

/-- What the outside drives on a strobe that the block drives is contended. -/
theorem contended_strobes {block drive : Byte} (h : block &&& 0x1E#8 &&& drive ≠ 0#8) :
    contended block (0x21#8 ||| (drive &&& ~~~0x21#8 &&& 0xFF#8)) 0#8 ≠ 0#8 ∧
      block &&& 0x1E#8 &&& drive &&& ~~~contended block (0x21#8 ||| (drive &&& ~~~0x21#8 &&& 0xFF#8)) 0#8 = 0#8 := by
  have hsub : block &&& 0x1E#8 &&& drive &&& ~~~contended block (0x21#8 ||| (drive &&& ~~~0x21#8 &&& 0xFF#8)) 0#8 = 0#8 := by
    have hbits : ∀ x : Byte, 0x1E#8 &&& x &&& ~~~(0x21#8 ||| (x &&& ~~~0x21#8 &&& 0xFF#8)) = 0#8 := by decide
    have hdrive := hbits drive
    simp only [contended, BitVec.and_zero, BitVec.or_zero]
    generalize 0x21#8 ||| (drive &&& ~~~0x21#8 &&& 0xFF#8) = y at hdrive
    ext i hi
    have hbit := congrArg (·[i]) hdrive
    simp only [BitVec.getElem_and, BitVec.getElem_not, BitVec.getElem_zero] at hbit ⊢
    cases hb : block[i] <;> simp_all
  refine ⟨fun hzero => h ?_, hsub⟩
  rw [hzero] at hsub
  exact (BitVec.and_allOnes (x := _)).symm.trans hsub

/-- The CPU's move before a port action is found to contend with a strobe that the block drives (log 38). -/
theorem contention_between {s : State} {d : Draw} (hw : Wired s.params) (hg : s.cpu.granted = false)
    (hb : blockDrive s ⟨.chip1, .portB⟩ &&& 0x1E#8 &&& d.between.b1.drive ≠ 0x00#8) :
    ∃ m, Event.contention ⟨.chip1, .portB⟩ m ∈ contentionEvents (busBetween d s) (drawBetween d) ∧
      blockDrive s ⟨.chip1, .portB⟩ &&& 0x1E#8 &&& d.between.b1.drive &&& ~~~m = 0x00#8 := by
  obtain ⟨hne, hsub⟩ := contended_strobes hb
  have hmask : bankContention (busBetween d s) (drawBetween d) ⟨.chip1, .portB⟩ =
      contended (blockDrive s ⟨.chip1, .portB⟩) (0x21#8 ||| (d.between.b1.drive &&& ~~~0x21#8 &&& 0xFF#8)) 0#8 := by
    have hp : (busBetween d s).params = s.params := rfl
    have hgb : (busBetween d s).cpu.granted = false := by simp [busBetween, hg]
    simp only [bankContention, outsideDrive, cpuAlwaysMask, hp, hgb, hw.data, hw.ctrl, hw.busak, hw.m1]
    rfl
  exact ⟨_, contention_mem rfl (by rw [hmask]; exact hne), by rw [hmask]; exact hsub⟩

theorem historyGrows_andThen {α β : Type} {o : Op α} {f : α → Op β} (hf : ∀ a, Stays HistoryGrows (f a)) (s : State) :
    HistoryGrows (o s).2 (andThen o f s).2 := by
  unfold andThen
  rcases o s with ⟨_ | _ | _, m⟩
  · exact hf _ m
  · exact historyGrows_rel.refl m
  · exact historyGrows_rel.refl m

theorem historyGrows_onError {α : Type} {o : Op α} {c : Op Unit} (hc : Stays HistoryGrows c) (s : State) :
    HistoryGrows (o s).2 (onError o c s).2 := by
  rcases hos : o s with ⟨a | e | _, m⟩ <;> simp only [onError, hos]
  · exact historyGrows_rel.refl m
  · have h := hc m
    rcases hcm : c m with ⟨_ | _ | _, m'⟩ <;> rw [hcm] at h <;> exact h
  · exact historyGrows_rel.refl m

/-- The history of a port action begins with what the CPU's move before it contends with. -/
theorem historyGrows_moved {f : State → State} (hf : ∀ m, HistoryGrows m (f m)) (d : Draw) (s : State) :
    HistoryGrows (envMove d s) (portAction d f s) :=
  (hf (envMove d s)).trans (by simp [portAction])

theorem historyGrows_moved_xferW (c : ChipId) (r : Reg) (v : Byte) (s : State) :
    HistoryGrows (envMove (drawAt s 0) (dropDraw s)) (xferW c r v s).2 := by
  rcases xferW_cases c r v s with ⟨-, h⟩ | ⟨x, -, h⟩ | ⟨-, h⟩ <;> rw [h]
  · exact historyGrows_moved (fun m => by exact m.history.prefix_append _) _ _
  · exact historyGrows_rel.trans (historyGrows_moved (fun m => by exact m.history.prefix_append _) _ _)
      (historyGrows_noteErr _ _)
  · exact historyGrows_rel.refl _

theorem historyGrows_probeCleanup : Stays HistoryGrows probeCleanup := fun s =>
  (law_probeCleanup continues_transferLaw.toReadLaw s).grows

theorem historyGrows_finish (r : Res (BitVec 16 × Byte)) (s : State) : HistoryGrows s (finish r s) := by
  rcases finish_cases r s with h | ⟨w, h⟩ <;> rw [h]
  · exact historyGrows_rel.refl s
  · exact ⟨[_], rfl⟩

/-- The probe of the control bank records what the CPU's move before its first transfer contends with. -/
theorem readRawCtrl_contends {s : State} (hc : s.configured = true) (hw : defaultWiring s.params = true)
    (hg : s.cpu.granted = false)
    (hb : blockDrive s ⟨.chip1, .portB⟩ &&& 0x1E#8 &&& (drawAt s 0).between.b1.drive ≠ 0x00#8) :
    ∃ t m, exec .readRawCtrl s = .next t ∧ Event.contention ⟨.chip1, .portB⟩ m ∈ newEvents s t ∧
      blockDrive s ⟨.chip1, .portB⟩ &&& 0x1E#8 &&& (drawAt s 0).between.b1.drive &&& ~~~m = 0x00#8 := by
  have hreg := registryOk_of_defaultWiring hw
  let s0 := setSeq (some (freshSeq .readRawCtrl)) s
  let s1 := touch (bankOf s.params .ctrl) (freshTransaction s0)
  have hexec := (exec_command (i := .readRawCtrl) rfl s).trans (command_of_ok hreg)
  have hbody : commandBody .readRawCtrl s0 = inD8 (readRawBankOp .ctrl) s0 := precheck_passes hc nofun
  have hp : (dropDraw s1).params = s.params := dropDraw_params s1
  have hchips : (dropDraw s1).chips = s.chips := dropDraw_chips s1
  have hcpu : (dropDraw s1).cpu = s.cpu := dropDraw_cpu s1
  have hblock : blockDrive (dropDraw s1) ⟨.chip1, .portB⟩ = blockDrive s ⟨.chip1, .portB⟩ := by
    simp only [blockDrive, hchips, hp]
  obtain ⟨m, hm, hsub⟩ := contention_between (s := dropDraw s1) (d := drawAt s 0)
    (by rw [hp]; exact wired_of_defaultWiring hw) (by rw [hcpu]; exact hg) (by rw [hblock]; exact hb)
  rw [hblock] at hsub
  have hmoved := historyGrows_moved_xferW (bankOf s.params .ctrl).chip (.iodir (bankOf s.params .ctrl).bank)
    (allIn s.params) s1
  have hread : HistoryGrows _ (readBank (bankOf s.params .ctrl) (freshTransaction s0)).2 :=
    historyGrows_andThen (fun _ => historyGrows_xferR (bankOf s.params .ctrl)) s1
  have hop : HistoryGrows _ (readRawBankOp .ctrl s0).2 :=
    historyGrows_onError (o := readBank (bankOf s.params .ctrl)) historyGrows_probeCleanup (freshTransaction s0)
  have hin : HistoryGrows (readRawBankOp .ctrl s0).2 (commandBody .readRawCtrl s0).2 := by
    rw [hbody]
    exact historyGrows_andThen (fun v m => historyGrows_rel.refl m) s0
  have hgrows := historyGrows_rel.trans (historyGrows_rel.trans (historyGrows_rel.trans (historyGrows_rel.trans hmoved hread)
    hop) hin) (historyGrows_finish (commandBody .readRawCtrl s0).1 _)
  refine ⟨_, m, hexec, ?_, hsub⟩
  obtain ⟨rest, hrest⟩ := hgrows
  have hhist : (envMove (drawAt s1 0) (dropDraw s1)).history =
      s.history ++ contentionEvents (busBetween (drawAt s 0) (dropDraw s1)) (drawBetween (drawAt s 0)) := by
    rw [envMove_history, dropDraw_history]
    rfl
  rw [hhist, List.append_assoc] at hrest
  rw [newEvents, ← hrest, List.drop_left]
  exact List.mem_append_left _ hm

/-! ## Transactions after the grant is lost (R370) -/

theorem Path.faults_grow {acts : List Action} {s t : State} (h : Path acts s t) :
    s.history.filter isFault <+: t.history.filter isFault := by
  induction h with
  | same hw => rw [hw.faults]
  | @step acts a s' m' t' h hstep ih =>
    cases hport : a.isPort with
    | false => rw [(hstep.entry hport).faults]; exact ih
    | true =>
      obtain ⟨n, hn⟩ := hstep.bus hport
      rw [hn.faults, List.append_assoc]
      exact ih.trans (List.prefix_append _ _)

/-- A CPU that takes no move stays without the grant. -/
theorem Path.ungranted_unmoved {acts : List Action} {s t : State} (h : Path acts s t) (hs : s.cpu.granted = false)
    (hm : ∀ i < portCount acts, (drawAt s i).cpuMove = false) : t.cpu.granted = false := by
  induction h with
  | same hw => rw [hw.cpu, hs]
  | @step acts a s' m' t' h hstep ih =>
    rw [portCount_append] at hm
    have hg := ih hs fun i hi => hm i (by omega)
    cases hport : a.isPort with
    | false => rw [(hstep.entry hport).cpu, hg]
    | true =>
      obtain ⟨n, hn⟩ := hstep.bus hport
      have hdraw : (drawAt m' 0).cpuMove = false := by
        rw [h.ended.draws 0]
        exact hm _ (by simp [portCount, hport])
      rw [hn.cpu_after, hn.cpu]
      refine granted_resetSeen (?_ : nextGranted (drawAt m' 0) (dropDraw m') = false)
      simp [nextGranted, hdraw, hg]

/-- The drive of ADDR_LO contends with a CPU that drives all its lines. -/
theorem driveLo_contends {p : Params} {s t : State} {v : Byte} (hw : Wired p) (hb : BusBanks p) (hp : s.params = p)
    (hc : Clean p s.chips) (hg : s.cpu.granted = false) (hm : ∀ k < 2, (drawAt s k).cpuMove = false)
    (hd : (drawAt s 1).banks.a0.drive = 0xFF#8) (h : Path (writeBankActs p (bankOf p .addrLo) v 0xFF#8) s t) :
    ∃ new, t.history.filter isFault = s.history.filter isFault ++ new ∧ Event.contention ⟨.chip0, .portA⟩ 0xFF#8 ∈ new := by
  have hregs := h.clean_regs hp hc (proper_writeBankActs (hb.present .addrLo (by simp)) v 0xFF#8) (bankOf p .addrLo)
  rw [bankAfter_writeBank, if_pos rfl] at hregs
  obtain ⟨a, b, hacts, ha, hbp⟩ : ∃ a b, writeBankActs p (bankOf p .addrLo) v 0xFF#8 = [a] ++ [b] ∧ a.isPort = true ∧
      b.isPort = true := by
    cases hwo : p.writeOrder <;> simp only [writeBankActs, hwo] <;> exact ⟨_, _, rfl, rfl, rfl⟩
  have hend := h.ended
  rw [hacts] at h
  obtain ⟨m, hfirst, hlast⟩ := h.snoc
  obtain ⟨n, hn⟩ := hlast.bus hbp
  have hcount : portCount [a] = 1 := by simp [portCount, ha]
  have hdraw : drawAt m 0 = drawAt s 1 := by rw [hfirst.ended.draws 0, hcount]
  have hgm := hfirst.ungranted_unmoved hg fun i hi => hm i (by omega)
  have hpn : n.params = p := hn.params.trans (hfirst.ended.params.trans hp)
  have hgn : n.cpu.granted = false := by
    rw [hn.cpu]
    refine granted_resetSeen (?_ : nextGranted (drawAt m 0) (dropDraw m) = false)
    simp [nextGranted, hgm, hdraw, hm 1 (by omega)]
  have hblock : blockDrive n ⟨.chip0, .portA⟩ = 0xFF#8 := by
    rw [blockDrive_eq, hpn, ← hn.chips_after, ← hw.lo, drives, hregs]
    exact outputBits_dirVal p 0xFF#8
  have hmask : bankContention n (drawAt m 0) ⟨.chip0, .portA⟩ = 0xFF#8 := by
    have hout : outsideDrive n (drawAt m 0) ⟨.chip0, .portA⟩ = 0xFF#8 := by
      simp [outsideDrive, cpuAlwaysMask, hpn, hw.ctrl, hgn, hdraw, ofBank, hd]
    rw [bankContention, hpn, hw.data, if_neg (by decide), hblock, hout]
    rfl
  obtain ⟨mid, hmid⟩ := hfirst.faults_grow
  refine ⟨_, by rw [hn.faults, ← hmid, List.append_assoc, List.append_assoc], ?_⟩
  refine List.mem_append_right _ (List.mem_append_right _ ?_)
  have hmem := contention_mem (s := n) (d := drawAt m 0) (id := ⟨.chip0, .portA⟩) rfl (by rw [hmask]; decide)
  rwa [hmask] at hmem

/-- Each transaction begins with the drive of ADDR_LO. -/
theorem transaction_driveLo {i : Instr} {s : State} (hi : isTransaction i = true) (hc : s.configured = true)
    (ho : s.arb = .owned) (hw : defaultWiring s.params = true) (ha : TransfersAnswered 14 s) :
    ∃ t d v rest, exec i s = .next t ∧ t.response = some (okReply false 0#16 d) ∧
      Path (writeBankActs s.params (bankOf s.params .addrLo) v 0xFF#8 ++ rest) s t := by
  have hreg := registryOk_of_defaultWiring hw
  have hb := busBanks_of_registryOk hreg
  cases i
  case readMem a =>
    obtain ⟨d, t, acts, f, he, had, rfl, -⟩ := exec_inD8 (i := .readMem a) rfl hreg (transaction_body rfl hc ho)
      (answers_readMemoryOp a) (fun _ _ _ h => h.2) ha
    exact ⟨t, d, _, _, he, had.response, by simpa [readMemActs, List.append_assoc] using had.path⟩
  case writeMem a v =>
    obtain ⟨t, acts, f, he, had, ⟨as, has, rfl⟩, -⟩ := exec_noData (i := .writeMem a v) rfl hreg
      (transaction_body rfl hc ho) (answers_writeMemoryOp a v) (fun _ _ h => h.2) ha
    exact ⟨t, 0#8, _, _, he, had.response, by simpa [writeMemDrives, List.append_assoc] using had.path⟩
  case readIo port =>
    obtain ⟨d, t, acts, f, he, had, rfl, -⟩ := exec_inD8 (i := .readIo port) rfl hreg (transaction_body rfl hc ho)
      (answers_readIoOp port hb) (fun _ _ _ h => h.2) fun i hi => ha i (by omega)
    exact ⟨t, d, _, _, he, had.response, by simpa [readIoActs, List.append_assoc] using had.path⟩
  case writeIo port v =>
    obtain ⟨t, acts, f, he, had, ⟨as, has, rfl⟩, -⟩ := exec_noData (i := .writeIo port v) rfl hreg
      (transaction_body rfl hc ho) (answers_writeIoOp port v hb) (fun _ _ h => h.2) fun i hi => ha i (by omega)
    exact ⟨t, 0#8, _, _, he, had.response, by simpa [writeIoDrives, List.append_assoc] using had.path⟩
  all_goals cases hi

/-- Settles O59: the contention is found before the probe's first transfer, and at the second transfer of a transaction. -/
theorem lostGrantGivesContention : Obligations.LostGrantGivesContention := by
  refine ⟨fun s hc hw hg _ hb => readRawCtrl_contends hc hw hg hb, fun i s hi hc ho hclean hw hg ha hm => ?_⟩
  obtain ⟨t, d, v, rest, he, hresp, hpath⟩ := transaction_driveLo hi hc ho hw ha
  obtain ⟨m, hdrive, hrest⟩ := hpath.split
  obtain ⟨new, hnew, hmem⟩ := driveLo_contends (wired_of_defaultWiring hw)
    (busBanks_of_registryOk (registryOk_of_defaultWiring hw)) rfl (chipsClean_iff.1 hclean).1.clean hg
    (fun k hk => (hm k (by omega)).1) (hm 1 (by omega)).2 hdrive
  obtain ⟨more, hmore⟩ := hrest.faults_grow
  refine ⟨t, d, he, hresp, newEvents_mem (exec_stays historyGrows_commandFrame he) (new := new ++ more) ?_
    (List.mem_append_left _ hmem)⟩
  rw [← hmore, hnew, List.append_assoc]

end Sys2Proof.Machine

/-! # A `GRAB` granted at its first poll (R201, R41, R52) -/

namespace Sys2Proof.Machine

/-- BUSRQ is Active and RESET is not, so that a CPU that moves is granted (R52). -/
structure Asked (s : State) : Prop where
  wired : Wired s.params
  busrq : ∀ d, lineActive s d .busrq = true
  reset : ∀ d, lineActive s d .reset = false

section
variable {s t n : State} {a : Action}

theorem Asked.granted (h : Asked s) (hg : s.cpu.granted = true) : Granted s := ⟨h.wired, hg, h.busrq, h.reset⟩

theorem Asked.congr (h : Asked s) (hp : t.params = s.params)
    (hl : ∀ l, l = .busrq ∨ l = .reset → ofLine t.lines l = ofLine s.lines l) : Asked t :=
  ⟨hp ▸ h.wired, fun d => (lineActive_congr hp (hl _ (.inl rfl)) d).trans (h.busrq d),
    fun d => (lineActive_congr hp (hl _ (.inr rfl)) d).trans (h.reset d)⟩

theorem nextGranted_asked (h : Asked s) (d : Draw) : nextGranted d (dropDraw s) = (d.cpuMove || s.cpu.granted) := by
  have h' : Asked (dropDraw s) := h.congr (by simp) (by simp)
  simp [nextGranted, h'.reset, h'.busrq]

theorem BusStep.asked (h : BusStep a s n t) (ha : a.SparesGrant) (hs : Asked s) :
    Asked t ∧ t.cpu.granted = ((drawAt s 0).cpuMove || s.cpu.granted) := by
  refine ⟨hs.congr h.params_after fun l hl => by rw [h.lines_after, h.lines]; exact ofLine_lines_sparesGrant ha hl _, ?_⟩
  rw [h.cpu_after, h.cpu, h.lineActive_spared ha (.inr rfl), hs.reset]
  exact nextGranted_asked hs _

end

/-- A run that asks the CPU for the bus, and in which the CPU moves, ends with the bus granted. -/
theorem Path.asked {acts : List Action} {s t : State} (h : Path acts s t) (ha : ∀ a ∈ acts, a.SparesGrant) (hs : Asked s) :
    Asked t ∧ ((s.cpu.granted = true ∨ ∃ i < portCount acts, (drawAt s i).cpuMove = true) → t.cpu.granted = true) := by
  induction h with
  | same hw =>
    refine ⟨hs.congr hw.params fun l _ => by rw [hw.lines], ?_⟩
    rintro (hg | ⟨i, hi, -⟩)
    · rw [hw.cpu, hg]
    · exact absurd hi (Nat.not_lt_zero i)
  | @step acts a s' m' t' h hstep ih =>
    obtain ⟨hm, hgm⟩ := ih (fun x hx => ha x (List.mem_append_left _ hx)) hs
    cases hport : a.isPort with
    | false =>
      have hw := hstep.entry hport
      refine ⟨hm.congr hw.params fun l _ => by rw [hw.lines], fun hg => ?_⟩
      rw [hw.cpu]
      refine hgm (hg.imp_right ?_)
      rintro ⟨i, hi, hmove⟩
      exact ⟨i, by simpa [portCount, hport] using hi, hmove⟩
    | true =>
      obtain ⟨n, hn⟩ := hstep.bus hport
      obtain ⟨ht, hgt⟩ := hn.asked (ha a (by simp)) hm
      refine ⟨ht, fun hg => ?_⟩
      rw [hgt, Bool.or_eq_true]
      have hcount : portCount (acts ++ [a]) = portCount acts + 1 := by simp [portCount, hport]
      rcases hg with hg | ⟨i, hi, hmove⟩
      · exact .inr (hgm (.inl hg))
      · rw [hcount] at hi
        by_cases hlast : i < portCount acts
        · exact .inr (hgm (.inr ⟨i, hlast, hmove⟩))
        · obtain rfl : i = portCount acts := by omega
          left
          rw [h.ended.draws 0]
          exact hmove

/-! ## The run of a `GRAB` granted at its first poll -/

/-- BUSRQ asserted, and one poll. -/
def grabOnceActs (p : Params) (v : Byte) : List Action := assertActs p .busrq ++ readBankActs p (bankOf p .ctrl) v

/-- `grab` owns the bus when its first poll finds BUSAK Active. -/
theorem did_grabOnce {p : Params} {s : State} (hp : s.params = p) (hr : s.arb = .released) (hn : 1 ≤ p.grabPollLimit)
    (ha : TransfersAnswered 4 s) : ∃ v t f, Did (grabOnceActs p v) f s t ∧ KeepsReport f ∧ t.arb = .owned ∧
      (busakActive p v = true → grabOp s = (.ok (), t)) := by
  subst hp
  obtain ⟨k, hk⟩ : ∃ k, s.params.grabPollLimit = k + 1 := ⟨_, (Nat.sub_add_cancel hn).symm⟩
  have hassert := did_lineAssert .busrq s
  have hpm : (lineAssert .busrq s).params = s.params := hassert.params
  obtain ⟨v, m, e, hread⟩ := did_readBank (bankOf s.params .ctrl) (s := lineAssert .busrq s)
    (hassert.answered_of (n := 2) (q := 4) rfl ha (.inr (by omega)))
  rw [hpm] at hread
  refine ⟨v, setArb .owned m, _, (hassert.trans hread).trans (Did.setArb .owned m), fun q => ⟨rfl, rfl⟩, rfl, fun hv => ?_⟩
  simp only [grabOp, hr, hk, grabPolls, hpm, andThen, e, hv, if_true, result]

theorem grabOnce_path {p : Params} {s t : State} {v : Byte} (hb : BusBanks p) (hw : Wired p) (hp : s.params = p)
    (hs : Idle p s.chips) (hr : ∀ d, lineActive s d .reset = false)
    (hm : (drawAt s 2).cpuMove = true ∨ (drawAt s 3).cpuMove = true) (h : Path (grabOnceActs p v) s t) :
    AtRest p t ∧ t.history.filter isFault = s.history.filter isFault ∧ 0x01#8 &&& v = 0#8 := by
  obtain ⟨m, hassert, hread⟩ := h.split
  have hid : bankOf p .ctrl ∈ restoreOrder p := ctrl_mem_restoreOrder
  have hpm : m.params = p := hassert.ended.params.trans hp
  obtain ⟨hidle, hfaults⟩ := hassert.idle hb (idle_assertActs .busrq) hp hs
  obtain ⟨hidle', hfaults'⟩ := hread.idle hb (idle_readBankActs hid v) hpm hidle
  have hlines : m.lines = withLine s.lines .busrq (assertedPin p .busrq (ofLine s.lines .busrq)) :=
    hassert.ended.lines.trans lines_assertActs
  have hasked : Asked m := by
    refine ⟨hpm ▸ hw, fun d => lineActive_asserted (lineAsserted_iff.2 ?_) d, fun d => ?_⟩
    · rw [hlines, ofLine_withLine_same, hpm]; rfl
    · exact (lineActive_congr (hpm.trans hp.symm) (by rw [hlines]; exact ofLine_withLine_of_ne _ _ nofun) d).trans (hr d)
  have hcount : portCount (assertActs p .busrq) = 2 := rfl
  have hmove : (drawAt m 0).cpuMove = true ∨ (drawAt m 1).cpuMove = true := by
    rwa [hassert.ended.draws 0, hassert.ended.draws 1, hcount]
  obtain ⟨ht, hgt⟩ := hread.asked (fun a h => (noPin_readBankActs p _ v a h).sparesGrant) hasked
  have hgranted : t.cpu.granted = true := hgt (.inr (hmove.elim (fun h => ⟨0, Nat.le_of_ble_eq_true rfl, h⟩)
    fun h => ⟨1, Nat.le_of_ble_eq_true rfl, h⟩))
  refine ⟨hidle'.atRest hb (hread.ended.params.trans hpm) (ht.granted hgranted), hfaults'.trans hfaults, ?_⟩
  obtain ⟨k, hwrite, hpk, hk, hv⟩ := readBank_reads hb hread hid hpm hidle
  obtain ⟨hka, hkg⟩ := hwrite.asked (by simp [Action.SparesGrant]) hasked
  have hnext : nextGranted (drawAt m 1) (dropDraw k) = true := by
    rw [nextGranted_asked hka, Bool.or_eq_true]
    exact hmove.elim (fun h => .inr (hkg (.inr ⟨0, Nat.le_of_ble_eq_true rfl, h⟩))) .inl
  have hlevel := busak_level (n := envMove (drawAt m 1) (dropDraw k)) (d := drawAt m 1) (by simpa [hpk] using hw)
    (by rw [blockDrive_eq]; simpa [hpk] using hk.undriven _ (hb.present .ctrl (by simp)))
  rw [envMove_granted, hnext, if_pos rfl] at hlevel
  rw [hv, bankLevels, envMove_params, dropDraw_params, hpk, if_neg hb.data_ctrl.symm]
  simpa [ctrlLevels, hpk] using hlevel

/-- `grab` from an idle bus, with RESET Inactive and a CPU that moves by the first read, owns a granted bus. -/
theorem grabOp_granted {p : Params} {s : State} (hw : defaultWiring p = true) (hp : s.params = p) (harb : s.arb = .released)
    (hn : 1 ≤ p.grabPollLimit) (ha : TransfersAnswered 4 s) (hs : Idle p s.chips)
    (hr : ∀ d, lineActive s d .reset = false) (hm : (drawAt s 2).cpuMove = true ∨ (drawAt s 3).cpuMove = true) :
    ∃ v t f, grabOp s = (.ok (), t) ∧ Did (grabOnceActs p v) f s t ∧ KeepsReport f ∧ t.arb = .owned ∧ AtRest p t ∧
      t.history.filter isFault = s.history.filter isFault ∧ 0x01#8 &&& v = 0#8 := by
  have hwired := wired_of_defaultWiring hw
  obtain ⟨v, t, f, hd, hf, hto, hgrab⟩ := did_grabOnce hp harb hn ha
  obtain ⟨hrest, hfaults, hv⟩ := grabOnce_path (busBanks_of_registryOk (registryOk_of_defaultWiring hw)) hwired hp hs hr hm
    hd.path
  refine ⟨v, t, f, hgrab ?_, hd, hf, hto, hrest, hfaults, hv⟩
  rw [busakActive, hwired.isActive, hwired.busak, BitVec.and_comm, hv]
  rfl

theorem noPin_readBank_lines {p : Params} {id : BankId} {v : Byte} (x : PerLine LinePin) :
    (readBankActs p id v).foldl Action.lines x = x := lines_foldl_noPin (noPin_readBankActs p id v) x

theorem portTrace_grabOnce (p : Params) (v : Byte) : portTrace p (grabOnceActs p v) = grabOnceTrace p v := by
  simp [grabOnceActs, grabOnceTrace]

/-- Settles O23: the first poll's read finds the CPU granted. -/
theorem grabGivesCleanOwned : Obligations.GrabGivesCleanOwned := by
  intro s hclean hw hn ha hm
  have hs := cleanConfigured_iff.1 hclean
  have hwired := wired_of_defaultWiring hw
  obtain ⟨hidle, hiocon⟩ := chipsClean_iff.1 hs.chips
  obtain ⟨v, m, f, hgrab, hd, hf, harb, hrest, hfaults, hv⟩ :=
    grabOp_granted (p := s.params) (s := setSeq (some (freshSeq .grab)) s) hw rfl hs.released hn ha hidle
      (lineActive_atRest hwired (hs.lines .reset)) hm
  have hbody : commandBody .grab (setSeq (some (freshSeq .grab)) s) = noData grabOp (setSeq (some (freshSeq .grab)) s) :=
    precheck_passes hs.configured nofun
  obtain ⟨hcommand, hperf⟩ := command_did (i := .grab) (body := commandBody .grab) (registryOk_of_defaultWiring hw)
    (hbody.trans (noData_of_ok hgrab)) hd (hf _).1
  have he := (exec_command (i := .grab) rfl s).trans hcommand
  have hlines : m.lines = withLine s.lines .busrq (assertedPin s.params .busrq (ofLine s.lines .busrq)) := by
    rw [hd.lines, grabOnceActs, List.foldl_append, lines_assertActs, noPin_readBank_lines]
    rfl
  have hpm : m.params = s.params := hd.params
  have htfaults : (respond (okReply false 0#16 0#8) m).history.filter isFault = [] := by
    rw [respond_history, List.filter_append, hfaults]
    exact (List.append_nil _).trans hs.faults
  refine ⟨_, v, he, rfl, ?_, hperf.portActions_eq (portTrace_grabOnce _ _), cleanOwned_iff.2 ?_,
    (noNewFault_iff (exec_stays historyGrows_commandFrame he)).2 (htfaults.trans hs.faults.symm)⟩
  · have hbit := congrArg (fun x : Byte => x.getLsbD 0) hv
    simpa using hbit
  refine ⟨(exec_keeps (keeps_configured (i := .grab) nofun) he).trans hs.configured, harb,
    (exec_keeps (keeps_pending rfl) he).trans hs.pending, rfl, lineAsserted_iff.2 ?_, fun l hl => ?_, chipsClean_iff.2 ?_,
    hrest.granted.cpu, htfaults⟩
  · rw [respond_lines, respond_params, hlines, ofLine_withLine_same, hpm]
    rfl
  · have hne : l ≠ .busrq := by rintro rfl; simp at hl
    have hsame : ofLine m.lines l = ofLine s.lines l := by rw [hlines]; exact ofLine_withLine_of_ne _ _ hne
    have hrestLine := hs.lines l
    simp only [lineAtRest, lineReleased, respond_params, respond_lines, hpm, hsame] at hrestLine ⊢
    exact hrestLine
  · rw [respond_params, hpm]
    exact ⟨hrest.idle, fun c hc => (sameIocon_of_exec he nofun c).trans (hiocon c hc)⟩

end Sys2Proof.Machine

/-! # The phases of `SINGLE_STEP` when every transfer is answered (R282 to R289) -/

namespace Sys2Proof.Machine

/-! ## Runs -/

/-- The next `n` draws of the environment are as `P` says. -/
def NextDraws (P : Draw → Prop) (n : Nat) (s : State) : Prop := ∀ i < n, P (drawAt s i)

/-- A run that raised no error and recorded no fault. -/
structure Phase (acts : List Action) (s t : State) : Prop where
  did : ∃ f, Did acts f s t ∧ KeepsReport f
  faults : t.history.filter isFault = s.history.filter isFault

section
variable {P Q : Draw → Prop} {n q : Nat} {as bs acts : List Action} {s t u : State}

theorem NextDraws.mono (h : NextDraws P q s) (hPQ : ∀ d, P d → Q d) (hn : n ≤ q) : NextDraws Q n s := fun i hi =>
  hPQ _ (h i (Nat.lt_of_lt_of_le hi hn))

theorem Phase.path (h : Phase acts s t) : Path acts s t :=
  have ⟨_, hd, _⟩ := h.did
  hd.path

theorem Phase.trans (h : Phase as s t) (k : Phase bs t u) : Phase (as ++ bs) s u :=
  have ⟨_, hd, hf⟩ := h.did
  have ⟨_, kd, kf⟩ := k.did
  ⟨⟨_, hd.trans kd, hf.trans kf⟩, k.faults.trans h.faults⟩

theorem Phase.own {f : State → State} (hd : Did [] id s (f s)) : Phase [] s (f s) :=
  ⟨⟨id, hd, keepsReport_id⟩, (path_nil hd.path).faults⟩

theorem Phase.params (h : Phase acts s t) : t.params = s.params := h.path.ended.params

theorem Phase.seq (h : Phase acts s t) (hs : s.seq ≠ none) : t.seq ≠ none :=
  have ⟨_, hd, _⟩ := h.did
  hd.seq_ne_none hs

theorem Phase.lines (h : Phase acts s t) : t.lines = acts.foldl Action.lines s.lines := h.path.ended.lines

theorem NextDraws.after (h : NextDraws P q s) (hr : Phase acts s t) (hn : portCount acts + n ≤ q) : NextDraws P n t :=
  fun i hi => by
    rw [hr.path.ended.draws]
    exact h _ (by omega)

end

/-! ## What the transfers and the pin actions keep -/

theorem sameOwnFields_frame : TransferFrame SameOwnFields where
  refl _ := ⟨rfl, rfl, rfl, rfl, rfl, rfl, rfl, rfl, rfl⟩
  trans h k := ⟨k.params.trans h.params, k.configured.trans h.configured, k.arb.trans h.arb, k.pending.trans h.pending,
    k.lines.trans h.lines, k.cmdPort.trans h.cmdPort, k.uopPort.trans h.uopPort, k.uopResult.trans h.uopResult,
    k.response.trans h.response⟩
  seq _ _ := ⟨rfl, rfl, rfl, rfl, rfl, rfl, rfl, rfl, rfl⟩
  event _ _ := ⟨rfl, rfl, rfl, rfl, rfl, rfl, rfl, rfl, rfl⟩
  write := sameOwnFields_xferW
  read := sameOwnFields_xferR

/-- The arbiter is as it was. -/
def SameArb (s t : State) : Prop := t.arb = s.arb

theorem sameArb_frame : TransferFrame SameArb where
  refl _ := rfl
  trans h k := k.trans h
  seq _ _ := rfl
  event _ _ := rfl
  write c r v s := (sameOwnFields_xferW c r v s).arb
  read id s := (sameOwnFields_xferR id s).arb

theorem sameArb_pin (l : Line) : PinFrame SameArb l where
  refl _ := rfl
  trans h k := k.trans h
  level v s := (sameButPin_gpioWrite l v s).arb
  dir v s := (sameButPin_gpioDir l v s).arb
  pullUp v s := (sameButPin_gpioPullUp l v s).arb

theorem arb_runAndSample (s : State) : (runAndSample s).2.arb = s.arb :=
  stays_runAndSample sameArb_frame (sameArb_pin _) (sameArb_pin _) s

/-! ## Memory transactions while the bus is owned -/

/-- Bytes written one after another (R284, R286). -/
structure Written (p : Params) (bytes : List (Addr × Byte)) (acts : List Action) (s t : State) : Prop where
  ran : Phase acts s t
  rest : AtRest p t
  own : SameOwnFields s t
  ports : portCount acts = 14 * bytes.length
  trace : portTrace p acts = bytes.flatMap fun x => writeMemTrace p x.1 x.2
  cycles : cycleTrace p acts = writeCycles bytes
  others : ∀ k, (∀ x ∈ bytes, k ≠ x.1.toNat) → memRead t.mem k = memRead s.mem k
  stored : (bytes.map Prod.fst).Nodup → ∀ x ∈ bytes, memRead t.mem x.1.toNat = some x.2

section
variable {p : Params} {s : State} (hw : Wired p) (hb : BusBanks p)
include hw hb

theorem writeMemory_written (a : Addr) (v : Byte) (hs : AtRest p s) (hq : s.seq ≠ none) (ha : TransfersAnswered 14 s) :
    ∃ t acts, writeMemoryOp a v s = (.ok (), t) ∧ Written p [(a, v)] acts s t := by
  obtain ⟨u, t, acts, f, e, hd, hn, ⟨as, has, rfl⟩, hf⟩ := answers_writeMemoryOp a v s hs.params hq ha
  have hpath := hd.path
  have hown := stays_writeMemoryOp sameOwnFields_frame a v s
  rw [e] at hown
  obtain ⟨htrans, hmem⟩ := writeMem_path hb hs (hw.memWrMask ▸ has) (hw.memWrMask ▸ hpath)
  refine ⟨t, _, e, ⟨⟨f, hd, hf⟩, htrans.faults⟩, htrans.rest, hown, hn, by simpa using portTrace_writeMem a v has,
    cycleTrace_writeMem a v has, fun k hk => ?_, fun _ x hx => ?_⟩
  · exact (htrans.mem k).resolve_right fun h => hk (a, v) (by simp) h.1
  · obtain rfl := List.mem_singleton.1 hx
    exact hmem

theorem writeBytes_written (bytes : List (Addr × Byte)) (hs : AtRest p s) (hq : s.seq ≠ none)
    (ha : TransfersAnswered (14 * bytes.length) s) :
    ∃ t acts, writeBytes bytes s = (.ok (), t) ∧ Written p bytes acts s t := by
  induction bytes generalizing s with
  | nil =>
    exact ⟨s, [], rfl, ⟨⟨id, Did.refl s, keepsReport_id⟩, rfl⟩, hs, sameOwnFields_frame.refl s, rfl, rfl, rfl,
      fun _ _ => rfl, by simp⟩
  | cons x bytes ih =>
    rw [List.length_cons] at ha
    obtain ⟨m, as, e, hm⟩ := writeMemory_written hw hb x.1 x.2 hs hq fun i hi => ha i (by omega)
    obtain ⟨t, bs, e', ht⟩ := ih hm.rest (hm.ran.seq hq) fun i hi => by
      rw [hm.ran.path.ended.draws, hm.ports]
      exact ha _ (by simp; omega)
    have heq : writeBytes (x :: bytes) s = (.ok (), t) := by
      rw [writeBytes] at e' ⊢
      simp only [List.map_cons, inOrder, andThen, e, e']
    refine ⟨t, as ++ bs, heq, hm.ran.trans ht.ran, ht.rest, sameOwnFields_frame.trans hm.own ht.own, ?_, ?_, ?_,
      fun k hk => ?_, fun hnd y hy => ?_⟩
    · rw [portCount_append, hm.ports, ht.ports]
      simp only [List.length_cons, List.length_nil]
      omega
    · rw [portTrace_append, hm.trace, ht.trace]
      simp
    · rw [cycleTrace_append, hm.cycles, ht.cycles]
      rfl
    · exact (ht.others k fun y hy => hk y (by simp [hy])).trans (hm.others k fun y hy => hk y (by simp_all))
    · rw [List.map_cons, List.nodup_cons] at hnd
      rcases List.mem_cons.1 hy with rfl | hy
      · refine (ht.others _ fun z hz heq => hnd.1 ?_).trans (hm.stored (by simp) y (by simp))
        exact List.mem_map.2 ⟨z, hz, BitVec.eq_of_toNat_eq heq.symm⟩
      · exact ht.stored hnd.2 y hy

end

/-- A byte read from the target's memory. -/
structure Fetched (p : Params) (a : Addr) (v : Byte) (acts : List Action) (s t : State) : Prop where
  ran : Phase acts s t
  rest : AtRest p t
  own : SameOwnFields s t
  ports : portCount acts = 14
  trace : portTrace p acts = readMemTrace p a v
  cycles : cycleTrace p acts = [.memRead a v]
  fills : Fills a s.mem t.mem
  known : p.oracle = .simMem → memRead t.mem a.toNat = some v

theorem readMemory_fetched {p : Params} {s : State} (hb : BusBanks p) (a : Addr) (hs : AtRest p s) (hq : s.seq ≠ none)
    (ha : TransfersAnswered 14 s) : ∃ v t acts, readMemoryOp a s = (.ok v, t) ∧ Fetched p a v acts s t := by
  obtain ⟨v, t, acts, f, e, hd, hn, rfl, hf⟩ := answers_readMemoryOp a s hs.params hq ha
  have hown := stays_readMemoryOp sameOwnFields_frame a s
  rw [e] at hown
  obtain ⟨htrans, hsim⟩ := readMem_path hb hs hd.path
  exact ⟨v, t, _, e, ⟨⟨f, hd, hf⟩, htrans.faults⟩, htrans.rest, hown, hn, portTrace_readMem a v, cycleTrace_readMem a v,
    htrans.mem, hsim⟩

/-- With `SimMem` a byte that memory held is the byte fetched. -/
theorem Fetched.known_eq {p : Params} {a : Addr} {v b : Byte} {acts : List Action} {s t : State}
    (h : Fetched p a v acts s t) (hsim : p.oracle = .simMem) (hk : memRead s.mem a.toNat = some b) : b = v :=
  Option.some.inj ((h.fills.keeps hk).symm.trans (h.known hsim))

/-- A snapshot is pending, and the bus owned and at rest. -/
structure Held (p : Params) (snap : Snapshot) (acts : List Action) (s t : State) : Prop where
  ran : Phase acts s t
  rest : AtRest p t
  pending : t.pending = some snap
  lines : t.lines = s.lines
  ports : portCount acts ≤ 42

theorem AtRest.setPending {p : Params} {s : State} (h : AtRest p s) (x : Option Snapshot) : AtRest p (setPending x s) :=
  ⟨h.toCalm.sameWorld (path_nil (Did.setPending x s).path), h.undriven⟩

/-- The snapshot of a retry (R288): the saved bytes are the ones that were pending. -/
theorem takeSnapshot_held {p : Params} {s : State} {snap : Snapshot} (target : Addr) (hs : AtRest p s)
    (hpend : s.pending = some snap) : ∃ t, takeSnapshot target s = (.ok (), t) ∧
      Held p { snap with jumpTarget := target } [] s t := by
  refine ⟨setPending (some { snap with jumpTarget := target }) s, ?_, Phase.own (Did.setPending _ s), hs.setPending _, rfl,
    rfl, Nat.zero_le _⟩
  simp only [takeSnapshot, hpend]

/-- The snapshot read (R283). -/
structure Taken (p : Params) (snap : Snapshot) (acts : List Action) (s t : State) : Prop extends Held p snap acts s t where
  trace : portTrace p acts =
    readMemTrace p 0#16 snap.saved0 ++ readMemTrace p 1#16 snap.saved1 ++ readMemTrace p 2#16 snap.saved2
  cycles : cycleTrace p acts = readCycles snap.saved0 snap.saved1 snap.saved2
  others : ∀ k, 3 ≤ k → memRead t.mem k = memRead s.mem k
  known : p.oracle = .simMem → ∀ x ∈ savedBytes snap, ∀ b, memRead s.mem x.1.toNat = some b → b = x.2

theorem Fills.elsewhere {a : Addr} {x y : List Host.Cell} (h : Fills a x y) {k : Nat} (hk : k ≠ a.toNat) :
    memRead y k = memRead x k := (h k).resolve_right fun h => hk h.1

theorem takeSnapshot_taken {p : Params} {s : State} (hb : BusBanks p) (target : Addr) (hs : AtRest p s)
    (hpend : s.pending = none) (hq : s.seq ≠ none) (ha : TransfersAnswered 42 s) :
    ∃ b0 b1 b2 t acts, takeSnapshot target s = (.ok (), t) ∧ Taken p ⟨b0, b1, b2, target⟩ acts s t := by
  obtain ⟨b0, s1, as, e0, h0⟩ := readMemory_fetched hb 0#16 hs hq fun i hi => ha i (by omega)
  have ha1 : TransfersAnswered 28 s1 := fun i hi => by
    rw [h0.ran.path.ended.draws, h0.ports]
    exact ha _ (by omega)
  obtain ⟨b1, s2, bs, e1, h1⟩ := readMemory_fetched hb 1#16 h0.rest (h0.ran.seq hq) fun i hi => ha1 i (by omega)
  have ha2 : TransfersAnswered 14 s2 := fun i hi => by
    rw [h1.ran.path.ended.draws, h1.ports]
    exact ha1 _ (by omega)
  obtain ⟨b2, s3, cs, e2, h2⟩ := readMemory_fetched hb 2#16 h1.rest (h1.ran.seq (h0.ran.seq hq)) ha2
  let x : Option Snapshot := some ⟨b0, b1, b2, target⟩
  have hset : Phase [] s3 (setPending x s3) := Phase.own (Did.setPending x s3)
  refine ⟨b0, b1, b2, setPending x s3, as ++ bs ++ cs ++ [], ?_, ⟨((h0.ran.trans h1.ran).trans h2.ran).trans hset,
    h2.rest.setPending x, rfl, h2.own.lines.trans (h1.own.lines.trans h0.own.lines), ?_⟩, ?_, ?_, fun k hk => ?_,
    fun hsim y hy b hy' => ?_⟩
  · simp only [takeSnapshot, hpend, andThen, e0, e1, e2, act, x]
  · simp [h0.ports, h1.ports, h2.ports]
  · simp [h0.trace, h1.trace, h2.trace]
  · simp [h0.cycles, h1.cycles, h2.cycles, readCycles]
  · have hne (a : Addr) (ha : a.toNat < 3) : k ≠ a.toNat := by omega
    exact (h2.fills.elsewhere (hne _ (by decide))).trans ((h1.fills.elsewhere (hne _ (by decide))).trans
      (h0.fills.elsewhere (hne _ (by decide))))
  · simp only [savedBytes, List.mem_cons, List.not_mem_nil, or_false] at hy
    rcases hy with rfl | rfl | rfl
    · exact h0.known_eq hsim hy'
    · exact h1.known_eq hsim (h0.fills.keeps hy')
    · exact h2.known_eq hsim (h1.fills.keeps (h0.fills.keeps hy'))

end Sys2Proof.Machine

/-! # The bus let go, and the CPU's run (R206, R285, R289) -/

namespace Sys2Proof.Machine

/-! ## The bus let go -/

/-- The port actions of `release` when every transfer is answered. -/
def releaseBusActs (p : Params) : List Action := restoresActs p (restoreOrder p) ++ releaseActs p .busrq

theorem answers_releaseOp {p : Params} :
    Answers p 4 (portCount (releaseBusActs p)) releaseOp fun _ acts f => acts = releaseBusActs p ∧ KeepsReport f := by
  rw [releaseOp_eq]
  refine answers_depends (f := fun s => andThen (act (setArb .released)) fun _ =>
    withCleanup (attemptAll ((restoreOrder s.params).map restoreBank)) (act (lineRelease .busrq))) fun s hs => ?_
  subst hs
  have hset : Answers s.params 0 0 (act (setArb .released)) fun _ acts f => acts = [] ∧ KeepsReport f := fun m _ _ _ =>
    ⟨(), _, [], id, rfl, Did.setArb .released m, rfl, rfl, keepsReport_id⟩
  have hall := answers_andThen (q := 4) hset (fun _ => answers_withCleanup (q := 4) (answers_restores (restoreOrder s.params))
    (answers_lineRelease (p := s.params) .busrq) (Nat.le_refl 4) (.inl rfl)) (by omega) (.inr (by omega))
  have hcount : portCount (releaseBusActs s.params) =
      0 + ((restoreOrder s.params).length + portCount (releaseActs s.params .busrq)) := by
    rw [releaseBusActs, portCount_append, portCount_restoresActs, Nat.zero_add]
  rw [hcount]
  refine hall.mono ?_
  rintro _ _ _ ⟨_, as, bs, a, b, rfl, rfl, ⟨rfl, ha⟩, cs, ds, c, d, rfl, rfl, ⟨rfl, hc⟩, rfl, hd⟩
  exact ⟨rfl, ha.trans (hc.trans hd)⟩

/-- The last action of `release` lets BUSRQ go; the CPU still has its grant until its next move (R52). -/
theorem releaseBusrq_mem {p : Params} {s t : State} (hw : Wired p) (hb : BusBanks p) (hs : Calm p s)
    (h : Path (releaseActs p .busrq) s t) : t.mem = s.mem := by
  rw [hw.releaseActs] at h
  obtain ⟨m, hm, hstep⟩ := h.one
  obtain ⟨n, hn⟩ := hstep.bus rfl
  have hcalm := hs.sameWorld hm
  have hg := hcalm.granted
  have hnext := nextGranted_of_granted hg (drawAt m 0)
  have hreset : lineActive n (drawAt m 0) .reset = false :=
    (lineActive_congr hn.params (by rw [hn.lines]; exact ofLine_withLine_of_ne _ _ (by decide : Line.reset ≠ .busrq)) _).trans (hg.reset _)
  have hgn : n.cpu.granted = true := by
    rw [hn.cpu, hreset]
    exact hnext
  have hpn : n.params = p := hn.params.trans hcalm.params
  have hchips : n.chips = m.chips := hn.chips
  have hctrl : blockDrive n (bankOf n.params .ctrl) = 0#8 := by rw [blockDrive_eq, hpn, hchips, hcalm.ctrl]
  have hpull : (bankRegs n.chips (bankOf n.params .ctrl)).gppu = 0xFF#8 := by
    rw [hpn, hchips]
    exact hcalm.clean.pull _ (hb.present .ctrl (by simp))
  rw [hn.mem_after, memoryNow_of_mreq (hpn ▸ hw) (strobesFree_of_granted (hpn ▸ hw) hgn hpull _) (by rw [hctrl]; rfl),
    hn.mem]
  simp [cpuMoves, hnext, hg.cpu, hm.mem]

/-- The bus let go. -/
structure Freed (p : Params) (s t : State) : Prop where
  ran : Phase (releaseBusActs p) s t
  idle : Idle p t.chips
  arb : t.arb = .released
  pending : t.pending = s.pending
  mem : t.mem = s.mem
  lines : t.lines = withLine s.lines .busrq (releasedPin p .busrq (ofLine s.lines .busrq))

theorem releaseOp_freed {p : Params} {s : State} (hw : Wired p) (hb : BusBanks p) (hs : AtRest p s) (hq : s.seq ≠ none)
    (ha : TransfersAnswered 4 s) : ∃ t, releaseOp s = (.ok (), t) ∧ Freed p s t := by
  obtain ⟨u, t, acts, f, e, hd, hn, rfl, hf⟩ := answers_releaseOp s hs.params hq ha
  have harb := releaseOp_arb s
  have hemits := emits_releaseOp s
  rw [e] at harb hemits
  obtain ⟨hidle, hfaults⟩ := hd.path.idle hb (idle_append (idle_restoresActs fun _ h => h) (idle_releaseActs _)) hs.params
    hs.idle
  obtain ⟨m, hrestores, hlast⟩ := hd.path.split
  obtain ⟨hm, -, hmem⟩ := hrestores.calm hb (calm_restoresActs fun _ h => h) hs.toCalm
  have hnopin : ∀ a ∈ restoresActs p (restoreOrder p), a.NoPin := fun a ha => by
    obtain ⟨id, -, ha⟩ := List.mem_flatMap.1 ha
    rw [List.mem_singleton.1 ha]
    trivial
  refine ⟨t, e, ⟨⟨f, hd, hf⟩, hfaults⟩, hidle, harb, hemits.pending, (releaseBusrq_mem hw hb hm hlast).trans hmem, ?_⟩
  rw [hd.lines, releaseBusActs, List.foldl_append, lines_foldl_noPin hnopin, lines_releaseActs]

theorem portTrace_releaseBus (p : Params) : portTrace p (releaseBusActs p) = releaseBusTrace p := by
  rw [releaseBusActs, portTrace_append, portTrace_restores, portTrace_release, releaseBusTrace]
  exact congrArg (· ++ _) (restoresTrace_eq [.ctrl, .data, .addrHi, .addrLo])

/-! ## The CPU's run and the sample -/

/-- The port actions of phase 4 (R285, R289). -/
def sampleActs (p : Params) (hi lo d : Byte) : List Action :=
  pulseActs p .reset true ++ assertActs p .wait ++ readAddrActs p hi lo ++ readBankActs p (bankOf p .data) d ++
    if p.ssWaitRelease then releaseActs p .wait else []

theorem answers_holdCpu {p : Params} : Answers p 0 (portCount (pulseActs p .reset true ++ assertActs p .wait))
    (act fun m => lineAssert .wait (pulseLine .reset true m)) fun _ acts f =>
      acts = pulseActs p .reset true ++ assertActs p .wait ∧ KeepsReport f := by
  rw [portCount_append]
  refine Answers.mono (answers_andThen (q := 0) (answers_pulseLine .reset true) (fun _ => answers_lineAssert .wait)
    (Nat.le_refl 0) (.inl rfl)) ?_
  rintro - acts f ⟨-, as, bs, a, b, rfl, rfl, ⟨rfl, ha⟩, rfl, hb⟩
  exact ⟨rfl, ha.trans hb⟩

theorem answers_freeCpu {p : Params} : Answers p 0 (portCount (if p.ssWaitRelease then releaseActs p .wait else []))
    (act fun m => if m.params.ssWaitRelease then lineRelease .wait m else m) fun _ acts f =>
      acts = (if p.ssWaitRelease then releaseActs p .wait else []) ∧ KeepsReport f := fun s hp hq ha => by
  subst hp
  cases h : s.params.ssWaitRelease with
  | true =>
    obtain ⟨v, t, acts, f, e, hd, hn, hacts⟩ := answers_lineRelease .wait s rfl hq ha
    exact ⟨v, t, acts, f, by simpa [act, h] using e, hd, hn, hacts⟩
  | false => exact ⟨(), s, [], id, by simp [act, h], Did.refl s, rfl, rfl, keepsReport_id⟩

theorem answers_runAndSample {p : Params} (hw : Wired p) : ∃ n, n ≤ 12 ∧
    Answers p 11 n runAndSample fun v acts f =>
      (∃ hi lo d, v = (hi ++ lo, d) ∧ acts = sampleActs p hi lo d) ∧ KeepsReport f := by
  have hhold : portCount (pulseActs p .reset true ++ assertActs p .wait) = 5 := by
    rw [pulseActs, hw.releaseActs]
    rfl
  have hfree : portCount (if p.ssWaitRelease then releaseActs p .wait else []) ≤ 1 := by
    rw [hw.releaseActs]
    split <;> decide
  have htail (a : Addr) (v : Byte) := answers_map (fun _ => (a, v)) (answers_freeCpu (p := p))
  have hall := answers_andThen (q := 11) (answers_holdCpu (p := p)) (fun _ => answers_andThen (q := 6)
    answers_readRawAddrOp (fun a => answers_andThen (q := 2) (answers_readRawBankOp .data) (fun v => htail a v)
      (Nat.le_refl 2) (.inl rfl)) (by omega) (.inr (by omega))) (by omega) (.inr (by omega))
  refine ⟨_, by omega, hall.mono ?_⟩
  rintro v acts f ⟨-, as, bs, a, b, rfl, rfl, ⟨rfl, ha⟩, _, cs, ds, c, d, rfl, rfl, ⟨⟨hi, lo, rfl, rfl⟩, hc⟩, x, es, gs, e, g,
    rfl, rfl, ⟨rfl, he⟩, -, rfl, rfl, hg⟩
  exact ⟨⟨hi, lo, x, rfl, by simp [sampleActs]⟩, ha.trans (hc.trans (he.trans hg))⟩

/-- The CPU ran from reset and was sampled. -/
structure Sampled (p : Params) (hi lo d : Byte) (s t : State) : Prop where
  ran : Phase (sampleActs p hi lo d) s t
  idle : Idle p t.chips
  arb : t.arb = s.arb
  pending : t.pending = s.pending
  ports : portCount (sampleActs p hi lo d) ≤ 12

theorem runAndSample_sampled {p : Params} {s : State} (hw : Wired p) (hb : BusBanks p) (hp : s.params = p)
    (hs : Idle p s.chips) (hq : s.seq ≠ none) (ha : TransfersAnswered 11 s) :
    ∃ hi lo d t, runAndSample s = (.ok (hi ++ lo, d), t) ∧ Sampled p hi lo d s t := by
  obtain ⟨n, hle, hans⟩ := answers_runAndSample hw
  obtain ⟨v, t, acts, f, e, hd, hn, ⟨hi, lo, d, rfl, rfl⟩, hf⟩ := hans s hp hq ha
  have harb := arb_runAndSample s
  have hemits := emits_runAndSample s
  rw [e] at harb hemits
  have hbank (x : SignalName) (hx : x ∈ [SignalName.ctrl, .data, .addrHi, .addrLo]) (v : Byte) :=
    idle_readBankActs (p := p) (bankOf_mem_restoreOrder hx) v
  have hpulse : ∀ a ∈ pulseActs p .reset true, a.Idle p := idle_append (idle_assertActs _) (idle_releaseActs _)
  have hfree : ∀ a ∈ (if p.ssWaitRelease then releaseActs p .wait else []), a.Idle p := by
    split
    · exact idle_releaseActs _
    · simp
  have hacts : ∀ a ∈ sampleActs p hi lo d, a.Idle p :=
    idle_append (idle_append (idle_append (idle_append hpulse (idle_assertActs _))
      (idle_append (hbank .addrLo (by simp) _) (hbank .addrHi (by simp) _))) (hbank .data (by simp) _)) hfree
  obtain ⟨hidle, hfaults⟩ := hd.path.idle hb hacts hp hs
  exact ⟨hi, lo, d, t, e, ⟨⟨f, hd, hf⟩, hfaults⟩, hidle, harb, hemits.pending, hn ▸ hle⟩

theorem noPin_readAddrActs (p : Params) (hi lo : Byte) : ∀ a ∈ readAddrActs p hi lo, a.NoPin := fun a h =>
  (List.mem_append.1 h).elim (noPin_readBankActs _ _ _ a) (noPin_readBankActs _ _ _ a)

section
variable {p : Params} {hi lo d : Byte} {s t : State}

theorem Sampled.lines_eq (h : Sampled p hi lo d s t) : t.lines =
    (if p.ssWaitRelease then releaseActs p .wait else []).foldl Action.lines
      ((assertActs p .wait).foldl Action.lines ((pulseActs p .reset true).foldl Action.lines s.lines)) := by
  rw [h.ran.lines, sampleActs, List.foldl_append, List.foldl_append, List.foldl_append, List.foldl_append,
    lines_foldl_noPin (noPin_readBankActs _ _ _), lines_foldl_noPin (noPin_readAddrActs _ _ _)]

theorem Sampled.reset (h : Sampled p hi lo d s t) :
    ofLine t.lines .reset = releasedPin p .reset (assertedPin p .reset (ofLine s.lines .reset)) := by
  rw [h.lines_eq, pulseActs, if_pos rfl, List.foldl_append, lines_assertActs, lines_assertActs, lines_releaseActs]
  have hne : Line.reset ≠ .wait := by decide
  cases p.ssWaitRelease with
  | true =>
    rw [if_pos rfl, lines_releaseActs, ofLine_withLine_of_ne _ _ hne, ofLine_withLine_of_ne _ _ hne, ofLine_withLine_same,
      ofLine_withLine_same]
  | false =>
    rw [if_neg Bool.false_ne_true, List.foldl_nil, ofLine_withLine_of_ne _ _ hne, ofLine_withLine_same,
      ofLine_withLine_same]

theorem Sampled.wait (h : Sampled p hi lo d s t) : ∃ x, ofLine t.lines .wait =
    if p.ssWaitRelease then releasedPin p .wait x else assertedPin p .wait x := by
  rw [h.lines_eq, lines_assertActs]
  cases p.ssWaitRelease with
  | true => exact ⟨_, by rw [if_pos rfl, if_pos rfl, lines_releaseActs, ofLine_withLine_same]⟩
  | false => exact ⟨_, by simp [ofLine_withLine_same]; rfl⟩

end

theorem portTrace_sample (p : Params) (hi lo d : Byte) : portTrace p (sampleActs p hi lo d) =
    assertTrace p .reset ++ releaseTrace p .reset ++ assertTrace p .wait ++ readBankTrace p (bankOf p .addrLo) lo ++
      readBankTrace p (bankOf p .addrHi) hi ++ readBankTrace p (bankOf p .data) d ++
      (if p.ssWaitRelease then releaseTrace p .wait else []) := by
  simp only [sampleActs, pulseActs, if_pos, readAddrActs, portTrace_append, portTrace_assert, portTrace_release,
    portTrace_readBank, List.append_assoc]
  split <;> simp

end Sys2Proof.Machine

/-! # `SINGLE_STEP` composed of its phases (R282 to R289) -/

namespace Sys2Proof.Machine

/-! ## A granted `grab` -/

/-- The draws of a `SINGLE_STEP`: each transfer answered, and a CPU that takes each change of its grant at once. -/
def StepDraw (d : Draw) : Prop := d.xfer = .ok ∧ d.cpuMove = true

/-- A `grab` granted at its first poll. -/
structure Seized (p : Params) (v : Byte) (s t : State) : Prop where
  ran : Phase (grabOnceActs p v) s t
  rest : AtRest p t
  pending : t.pending = s.pending
  lines : ∀ l, l ≠ .busrq → ofLine t.lines l = ofLine s.lines l

theorem portCount_grabOnceActs (p : Params) (v : Byte) : portCount (grabOnceActs p v) = 4 := rfl

theorem grabOp_seized {p : Params} {s : State} (hw : defaultWiring p = true) (hp : s.params = p) (harb : s.arb = .released)
    (hn : 1 ≤ p.grabPollLimit) (hd : NextDraws StepDraw 4 s) (hs : Idle p s.chips)
    (hr : ∀ d, lineActive s d .reset = false) : ∃ v t, grabOp s = (.ok (), t) ∧ Seized p v s t := by
  obtain ⟨v, t, f, e, hdid, hf, -, hrest, hfaults, -⟩ := grabOp_granted hw hp harb hn (fun i hi => (hd i hi).1) hs hr
    (.inl (hd 2 (by decide)).2)
  have hemits := emits_grabOp s
  rw [e] at hemits
  refine ⟨v, t, e, ⟨⟨f, hdid, hf⟩, hfaults⟩, hrest, hemits.pending, fun l hl => ?_⟩
  rw [hdid.lines, grabOnceActs, List.foldl_append, lines_assertActs, noPin_readBank_lines]
  exact ofLine_withLine_of_ne _ _ hl

/-! ## What a quiet environment leaves unchanged -/

section
variable {p : Params}

theorem sparesMreq_sampleActs (hi lo d : Byte) : ∀ a ∈ sampleActs p hi lo d, a.SparesMreq p := by
  have hfree : ∀ a ∈ (if p.ssWaitRelease then releaseActs p .wait else []), a.SparesMreq p := by
    split
    · exact sparesMreq_releaseActs _
    · simp
  exact sparesMreq_append (sparesMreq_append (sparesMreq_append (sparesMreq_append (sparesMreq_pulseActs _ _)
    (sparesMreq_assertActs _)) (sparesMreq_append (sparesMreq_readBankActs _ _) (sparesMreq_readBankActs _ _)))
    (sparesMreq_readBankActs _ _)) hfree

theorem sparesMreq_grabOnceActs (v : Byte) : ∀ a ∈ grabOnceActs p v, a.SparesMreq p :=
  sparesMreq_append (sparesMreq_assertActs _) (sparesMreq_readBankActs _ _)

/-- With a quiet environment a run that never drives MREQ leaves memory as it was. -/
theorem Phase.quiet_mem {acts : List Action} {s t : State} {n : Nat} (h : Phase acts s t) (hw : Wired p) (hb : BusBanks p)
    (hp : s.params = p) (hs : Idle p s.chips) (ha : ∀ a ∈ acts, a.SparesMreq p) (hq : NextDraws (quietDraw p) n s)
    (hn : portCount acts ≤ n) : t.mem = s.mem :=
  (h.path.quiet hw ha hp (by rw [hs.undriven _ (hb.present .ctrl (by simp))]; rfl)
    fun i hi => hq i (Nat.lt_of_lt_of_le hi hn)).1

end

/-! ## The CPU's run, and the bus owned again -/

theorem cycleTrace_sample (p : Params) (hi lo d : Byte) : cycleTrace p (sampleActs p hi lo d) = [] := by
  simp only [sampleActs, pulseActs, if_pos, readAddrActs, cycleTrace_append, cycleTrace_assert, cycleTrace_release,
    cycleTrace_readBank, List.append_nil, List.nil_append]
  split <;> simp

theorem cycleTrace_grabOnce (p : Params) (v : Byte) : cycleTrace p (grabOnceActs p v) = [] := by simp [grabOnceActs]

/-- The CPU ran, and the bus is owned again (R285). -/
structure Rerun (p : Params) (hi lo d v : Byte) (s t : State) : Prop where
  ran : Phase (sampleActs p hi lo d ++ grabOnceActs p v) s t
  rest : AtRest p t
  pending : t.pending = s.pending
  ports : portCount (sampleActs p hi lo d ++ grabOnceActs p v) ≤ 16
  reset : ofLine t.lines .reset = releasedPin p .reset (assertedPin p .reset (ofLine s.lines .reset))
  wait : ∃ x, ofLine t.lines .wait = if p.ssWaitRelease then releasedPin p .wait x else assertedPin p .wait x

theorem lineActive_pulsed {p : Params} {s : State} {x : LinePin} (hw : Wired p) (hp : s.params = p)
    (hx : x.pullUp = true) (h : ofLine s.lines .reset = releasedPin p .reset (assertedPin p .reset x)) (d : Draw) :
    lineActive s d .reset = false := by
  have hlow (n : SignalName) : activeLevel p n = false := hw.activeLevel n
  refine lineActive_pulledUp (by rw [hp, hlow]) ?_ ?_ d
  · rw [h, releasedPin, hlow]; rfl
  · rw [h, releasedPin, hlow]; exact hx

theorem rerun {p : Params} {s : State} (hw : defaultWiring p = true) (hp : s.params = p) (harb : s.arb = .released)
    (hn : 1 ≤ p.grabPollLimit) (hd : NextDraws StepDraw 16 s) (hs : Idle p s.chips) (hq : s.seq ≠ none)
    (hpull : (ofLine s.lines .reset).pullUp = true) :
    ∃ hi lo d v m t, runAndSample s = (.ok (hi ++ lo, d), m) ∧ grabOp m = (.ok (), t) ∧ Rerun p hi lo d v s t := by
  have hwired := wired_of_defaultWiring hw
  have hb := busBanks_of_registryOk (registryOk_of_defaultWiring hw)
  obtain ⟨hi, lo, d, m, e, hm⟩ := runAndSample_sampled hwired hb hp hs hq fun i hi => (hd i (by omega)).1
  have hpm : m.params = p := hm.ran.params.trans hp
  obtain ⟨v, t, e', ht⟩ := grabOp_seized hw hpm (hm.arb.trans harb) hn (hd.after hm.ran (by have := hm.ports; omega)) hm.idle
    (lineActive_pulsed hwired hpm hpull hm.reset)
  obtain ⟨x, hx⟩ := hm.wait
  refine ⟨hi, lo, d, v, m, t, e, e', hm.ran.trans ht.ran, ht.rest, ht.pending.trans hm.pending, ?_,
    (ht.lines _ (by decide)).trans hm.reset, x, (ht.lines _ (by decide)).trans hx⟩
  have := hm.ports
  rw [portCount_append, portCount_grabOnceActs]
  omega

/-! ## The saved bytes put back -/

/-- The saved bytes are back, and the bus is free (R286). -/
structure PutBack (p : Params) (snap : Snapshot) (acts : List Action) (s t : State) : Prop where
  ran : Phase acts s t
  idle : Idle p t.chips
  arb : t.arb = .released
  pending : t.pending = none
  trace : portTrace p acts = writeVectorTrace p snap.saved0 snap.saved1 snap.saved2 ++ releaseBusTrace p
  cycles : cycleTrace p acts = writeCycles (savedBytes snap)
  lines : t.lines = withLine s.lines .busrq (releasedPin p .busrq (ofLine s.lines .busrq))
  saved : ∀ x ∈ savedBytes snap, memRead t.mem x.1.toNat = some x.2
  others : ∀ k, 3 ≤ k → memRead t.mem k = memRead s.mem k

/-- The bytes that `singleStep` saves and overwrites are at addresses 0 to 2. -/
theorem vector_below {bytes : List (Addr × Byte)} (h : bytes.map Prod.fst = [0#16, 1#16, 2#16]) {k : Nat} (hk : 3 ≤ k) :
    ∀ x ∈ bytes, k ≠ x.1.toNat := fun x hx => by
  have hmem : x.1 ∈ bytes.map Prod.fst := List.mem_map_of_mem hx
  rw [h] at hmem
  simp only [List.mem_cons, List.not_mem_nil, or_false] at hmem
  have hlt : x.1.toNat < 3 := by rcases hmem with h | h | h <;> rw [h] <;> decide
  omega

theorem cycleTrace_releaseBus (p : Params) : cycleTrace p (releaseBusActs p) = [] := by
  rw [releaseBusActs, cycleTrace_append, cycleTrace_restores, cycleTrace_release, List.append_nil]

theorem putBack {p : Params} {s : State} {snap : Snapshot} (hw : Wired p) (hb : BusBanks p) (hs : AtRest p s)
    (hq : s.seq ≠ none) (hpend : s.pending = some snap) (hd : NextDraws StepDraw 46 s) : ∃ t acts,
    (∀ {α : Type} (x : α), andThen (onError restoreBytes releaseOp) (fun _ => andThen releaseOp fun _ => result x) s =
      (.ok x, t)) ∧ PutBack p snap acts s t := by
  obtain ⟨m, ws, e, hm⟩ := writeBytes_written hw hb (savedBytes snap) hs hq fun i hi => (hd i (by
    simp only [savedBytes, List.length_cons, List.length_nil] at hi
    omega)).1
  have hset : Phase [] m (setPending none m) := Phase.own (Did.setPending none m)
  have hrest : AtRest p (setPending none m) := hm.rest.setPending none
  have hall := hm.ran.trans hset
  have hports : portCount (ws ++ []) = 42 := by rw [List.append_nil, hm.ports]; rfl
  obtain ⟨t, e', ht⟩ := releaseOp_freed hw hb hrest (hall.seq hq) fun i hi =>
    (hd.after (n := 4) hall (by rw [hports]) i hi).1
  refine ⟨t, _, fun x => ?_, hall.trans ht.ran, ht.idle, ht.arb, ht.pending, ?_, ?_, ?_, fun x hx => ?_, fun k hk => ?_⟩
  · simp only [andThen, onError, restoreBytes, hpend, e, act, e', result]
  · rw [portTrace_append, List.append_nil, hm.trace, portTrace_releaseBus]
    simp [savedBytes, writeVectorTrace]
  · rw [cycleTrace_append, List.append_nil, hm.cycles, cycleTrace_releaseBus, List.append_nil]
  · rw [ht.lines]
    exact congrArg₂ (fun x y => withLine x .busrq (releasedPin p .busrq (ofLine y .busrq))) hm.own.lines hm.own.lines
  · rw [ht.mem]
    exact hm.stored (by simp [savedBytes]) x hx
  · rw [ht.mem]
    exact hm.others k (vector_below rfl hk)

/-! ## The jump, the run, and the saved bytes put back -/

theorem andThen_of_ok {α β : Type} {o : Op α} {f : α → Op β} {s t : State} {a : α} (h : o s = (.ok a, t)) :
    andThen o f s = f a t := by
  simp only [andThen, h]

/-- Phases 3 to 5 (R284 to R286). -/
def jumpAndRestore (target : Addr) : Op (Addr × Byte) :=
  andThen (writeBytes (jumpBytes target)) fun _ => runAndRestore

/-- What phases 3 to 5 come to. -/
structure Stepped (p : Params) (target : Addr) (snap : Snapshot) (hi lo d v : Byte) (acts : List Action) (s t : State) :
    Prop where
  ran : Phase acts s t
  idle : Idle p t.chips
  arb : t.arb = .released
  pending : t.pending = none
  trace : portTrace p acts = jumpAndRestoreTrace p target snap.saved0 snap.saved1 snap.saved2 lo hi d v
  cycles : cycleTrace p acts = jumpAndRestoreCycles target snap.saved0 snap.saved1 snap.saved2
  busrq : ∃ x, ofLine t.lines .busrq = releasedPin p .busrq x
  reset : ∃ x, ofLine t.lines .reset = releasedPin p .reset x
  wait : ∃ x, ofLine t.lines .wait = if p.ssWaitRelease then releasedPin p .wait x else assertedPin p .wait x
  saved : ∀ x ∈ savedBytes snap, memRead t.mem x.1.toNat = some x.2
  others : NextDraws (quietDraw p) 109 s → ∀ k, 3 ≤ k → memRead t.mem k = memRead s.mem k

theorem portCount_releaseBusActs {p : Params} (hw : Wired p) : portCount (releaseBusActs p) = 5 := by
  rw [releaseBusActs, portCount_append, portCount_restoresActs, hw.releaseActs]
  rfl

theorem jumpAndRestore_stepped {p : Params} {s : State} {snap : Snapshot} (target : Addr) (hw : defaultWiring p = true)
    (hn : 1 ≤ p.grabPollLimit) (hs : AtRest p s) (hq : s.seq ≠ none) (hpend : s.pending = some snap)
    (hpull : (ofLine s.lines .reset).pullUp = true) (hd : NextDraws StepDraw 109 s) :
    ∃ hi lo d v t acts, jumpAndRestore target s = (.ok (hi ++ lo, d), t) ∧
      Stepped p target snap hi lo d v acts s t := by
  have hwired := wired_of_defaultWiring hw
  have hb := busBanks_of_registryOk (registryOk_of_defaultWiring hw)
  obtain ⟨s1, ws, e1, h1⟩ := writeBytes_written hwired hb (jumpBytes target) hs hq fun i hi => (hd i (by
    simp only [jumpBytes, List.length_cons, List.length_nil] at hi
    omega)).1
  have hp1 : portCount ws = 42 := h1.ports
  have hd1 : NextDraws StepDraw 67 s1 := hd.after h1.ran (by omega)
  obtain ⟨s2, e2, h2⟩ := releaseOp_freed hwired hb h1.rest (h1.ran.seq hq) fun i hi => (hd1 i (by omega)).1
  have h12 := h1.ran.trans h2.ran
  have hcount := portCount_releaseBusActs hwired
  have hp2 : portCount (ws ++ releaseBusActs p) = 47 := by rw [portCount_append, hp1, hcount]
  have hps2 : s2.params = p := h2.ran.params.trans h1.rest.params
  have hne : Line.reset ≠ .busrq := by decide
  have hpull2 : (ofLine s2.lines .reset).pullUp = true := by
    rw [h2.lines, ofLine_withLine_of_ne _ _ hne, h1.own.lines]
    exact hpull
  obtain ⟨hi, lo, d, v, s3, s4, e3, e4, h4⟩ := rerun hw hps2 h2.arb hn (hd.after h12 (by omega)) h2.idle (h12.seq hq) hpull2
  have h14 := h12.trans h4.ran
  have hp4 : portCount (ws ++ releaseBusActs p ++ (sampleActs p hi lo d ++ grabOnceActs p v)) ≤ 63 := by
    rw [portCount_append, hp2]
    exact Nat.add_le_add_left h4.ports 47
  have hpend4 : s4.pending = some snap := h4.pending.trans (h2.pending.trans (h1.own.pending.trans hpend))
  obtain ⟨t, bs, e5, h5⟩ := putBack hwired hb h4.rest (h14.seq hq) hpend4 (hd.after h14 (by omega))
  obtain ⟨x, hx⟩ := h4.wait
  refine ⟨hi, lo, d, v, t, _, ?_, h14.trans h5.ran, h5.idle, h5.arb, h5.pending, ?_, ?_,
    ⟨_, by rw [h5.lines, ofLine_withLine_same]⟩, ⟨_, by rw [h5.lines, ofLine_withLine_of_ne _ _ hne, h4.reset]⟩, ⟨x, ?_⟩, h5.saved,
    fun hquiet k hk => ?_⟩
  · exact (andThen_of_ok e1).trans ((andThen_of_ok e2).trans ((andThen_of_ok e3).trans ((andThen_of_ok e4).trans (e5 _))))
  · rw [portTrace_append, portTrace_append, portTrace_append, portTrace_append, h1.trace, portTrace_releaseBus,
      portTrace_sample, portTrace_grabOnce, h5.trace, jumpAndRestoreTrace]
    simp [jumpBytes, writeVectorTrace, jumpOpcode]
  · rw [cycleTrace_append, cycleTrace_append, cycleTrace_append, cycleTrace_append, h1.cycles, cycleTrace_releaseBus,
      cycleTrace_sample, cycleTrace_grabOnce, h5.cycles]
    rfl
  · rw [h5.lines, ofLine_withLine_of_ne _ _ (by decide : Line.wait ≠ .busrq), hx]
  · have hmem : s4.mem = s2.mem := h4.ran.quiet_mem hwired hb hps2 h2.idle
      (sparesMreq_append (sparesMreq_sampleActs _ _ _) (sparesMreq_grabOnceActs _)) (hquiet.after h12 (n := 16) (by omega))
      h4.ports
    rw [h5.others k hk, hmem, h2.mem]
    exact h1.others k (vector_below rfl hk)

end Sys2Proof.Machine

/-! # `SINGLE_STEP` (O37 to O39) -/

namespace Sys2Proof.Machine

/-- Phases 2 to 5 when the snapshot is taken and the rest ends well. -/
theorem snapshotAndJump_ok {target : Addr} {x : Addr × Byte} {g m k : State} (hsnap : takeSnapshot target g = (.ok (), m))
    (h : jumpAndRestore target m = (.ok x, k)) :
    andThen (snapshotAndJump target) (fun _ => runAndRestore) g = (.ok x, k) := by
  rcases hbytes : writeBytes (jumpBytes target) m with ⟨_ | _ | _, n⟩
  · rw [jumpAndRestore, andThen_of_ok hbytes] at h
    refine (andThen_of_ok (a := ()) (t := n) ?_).trans h
    simp only [snapshotAndJump, onError, andThen_of_ok hsnap, hbytes]
  · simp [jumpAndRestore, andThen, hbytes] at h
  · simp [jumpAndRestore, andThen, hbytes] at h

/-- The response to a `SINGLE_STEP` that ended well, and the state that it was given in. -/
structure StepDone (target : Addr) (snap : Snapshot) (v : Byte) (acts : List Action) (s m t : State) : Prop where
  exec : exec (.singleStep target) s = .next t
  stepped : ∃ k hi lo d v' as, t = respond (okReply false (hi ++ lo) d) k ∧ Stepped s.params target snap hi lo d v' as m k ∧
    Performed (grabOnceActs s.params v ++ acts ++ as) s t
  faults : t.history.filter isFault = s.history.filter isFault

section
variable {s : State} {target : Addr} (hw : defaultWiring s.params = true) (hn : 1 ≤ s.params.grabPollLimit)
  (hlines : ∀ l, lineAtRest s l = true) (hd : NextDraws StepDraw 156 s)
include hw hn hlines hd

/-- The first `grab` of a `SINGLE_STEP`. -/
theorem singleStep_seized (harb : s.arb = .released) (hidle : Idle s.params s.chips) :
    ∃ v g, grabOp (setSeq (some (freshSeq (.singleStep target))) s) = (.ok (), g) ∧
      Seized s.params v (setSeq (some (freshSeq (.singleStep target))) s) g :=
  grabOp_seized hw rfl harb hn (hd.mono (fun _ h => h) (by omega)) hidle
    (lineActive_atRest (wired_of_defaultWiring hw) (hlines .reset))

variable (hc : s.configured = true)
include hc

/-- A `SINGLE_STEP` runs to its end once its `grab` and its snapshot are through. -/
theorem singleStep_done {g m : State} {v : Byte} {snap : Snapshot} {acts : List Action}
    (hgrab : grabOp (setSeq (some (freshSeq (.singleStep target))) s) = (.ok (), g))
    (hg : Seized s.params v (setSeq (some (freshSeq (.singleStep target))) s) g)
    (hsnap : takeSnapshot target g = (.ok (), m)) (hm : Held s.params snap acts g m) :
    ∃ t, StepDone target snap v acts s m t := by
  have hgm := hg.ran.trans hm.ran
  have hpull : (ofLine m.lines .reset).pullUp = true := by
    rw [hm.lines, hg.lines _ (by decide)]
    exact (Bool.and_eq_true _ _ ▸ hlines .reset).2
  have hd0 : NextDraws StepDraw 156 (setSeq (some (freshSeq (.singleStep target))) s) := hd
  have hports := hm.ports
  obtain ⟨hi, lo, d, v', k, as, e, hk⟩ := jumpAndRestore_stepped target hw hn hm.rest (hgm.seq (Option.some_ne_none _))
    hm.pending hpull (hd0.after hgm (by rw [portCount_append, portCount_grabOnceActs]; omega))
  have hall := hgm.trans hk.ran
  obtain ⟨f, hdid, hf⟩ := hall.did
  have hbody : commandBody (.singleStep target) (setSeq (some (freshSeq (.singleStep target))) s) =
      singleStepOp target (setSeq (some (freshSeq (.singleStep target))) s) := precheck_passes hc nofun
  have hop : singleStepOp target (setSeq (some (freshSeq (.singleStep target))) s) = (.ok (hi ++ lo, d), k) := by
    rw [singleStepOp_eq]
    exact (andThen_of_ok hgrab).trans (snapshotAndJump_ok hsnap e)
  obtain ⟨hcommand, hperf⟩ := command_did (i := .singleStep target) (body := commandBody (.singleStep target))
    (registryOk_of_defaultWiring hw) (hbody.trans hop) hdid (hf _).1
  refine ⟨_, (exec_command (i := .singleStep target) rfl s).trans hcommand, ⟨k, hi, lo, d, v', as, rfl, hk, hperf⟩, ?_⟩
  rw [respond_history, List.filter_append, hall.faults]
  exact List.append_nil _

/-- A `SINGLE_STEP` without a pending snapshot. -/
theorem singleStep_first (harb : s.arb = .released) (hidle : Idle s.params s.chips) (hpend : s.pending = none) : ∃ b0 b1 b2 v acts g m t,
    Seized s.params v (setSeq (some (freshSeq (.singleStep target))) s) g ∧
      Taken s.params ⟨b0, b1, b2, target⟩ acts g m ∧ StepDone target ⟨b0, b1, b2, target⟩ v acts s m t := by
  obtain ⟨v, g, hgrab, hg⟩ := singleStep_seized (target := target) hw hn hlines hd harb hidle
  have hd0 : NextDraws StepDraw 156 (setSeq (some (freshSeq (.singleStep target))) s) := hd
  have hdg : NextDraws StepDraw 42 g := hd0.after hg.ran (by rw [portCount_grabOnceActs]; omega)
  obtain ⟨b0, b1, b2, m, acts, hsnap, hm⟩ := takeSnapshot_taken (busBanks_of_registryOk (registryOk_of_defaultWiring hw))
    target hg.rest (hg.pending.trans hpend) (hg.ran.seq (Option.some_ne_none _)) fun i hi => (hdg i hi).1
  obtain ⟨t, ht⟩ := singleStep_done hw hn hlines hd hc hgrab hg hsnap hm.toHeld
  exact ⟨b0, b1, b2, v, acts, g, m, t, hg, hm, ht⟩

end

theorem lineAsserted_wait_iff {p : Params} {t : State} {x : LinePin} (hw : Wired p) (hp : t.params = p)
    (h : ofLine t.lines .wait = if p.ssWaitRelease then releasedPin p .wait x else assertedPin p .wait x) :
    lineAsserted t .wait = true ↔ p.ssWaitRelease = false := by
  have hlow := hw.activeLevel (lineSignal .wait)
  cases hs : p.ssWaitRelease with
  | true => simp [lineAsserted, hp, hlow, h, hs, releasedPin]
  | false => simp [lineAsserted, hp, h, hs, assertedPin]

/-- Settles O37: the phases one after another, from the first `grab` to the second `release`. -/
theorem singleStepResult : Obligations.SingleStepResult := by
  intro s target hclean hw hn hd
  have hs := cleanConfigured_iff.1 hclean
  have hwired := wired_of_defaultWiring hw
  obtain ⟨hidle, hiocon⟩ := chipsClean_iff.1 hs.chips
  obtain ⟨b0, b1, b2, v, acts, g, m, t, hg, hm, ht⟩ := singleStep_first (target := target) hw hn hs.lines hd hs.configured
    hs.released hidle hs.pending
  have he := ht.exec
  obtain ⟨k, hi, lo, d, v', as, rfl, hk, hperf⟩ := ht.stepped
  have hpk : k.params = s.params := hk.ran.params.trans hm.rest.params
  obtain ⟨_, hbusrq⟩ := hk.busrq
  obtain ⟨_, hreset⟩ := hk.reset
  obtain ⟨_, hwait⟩ := hk.wait
  refine ⟨_, b0, b1, b2, v, v', lo, hi, d, he, rfl, hperf.portActions_eq ?_, ?_,
    (noNewFault_iff (exec_stays historyGrows_commandFrame he)).2 ht.faults,
    (exec_keeps (keeps_configured (i := .singleStep target) nofun) he).trans hs.configured, hk.arb, hk.pending, rfl,
    lineReleased_of_releasedPin hpk hbusrq, lineReleased_of_releasedPin hpk hreset,
    lineAsserted_wait_iff hwired hpk hwait, chipsClean_iff.2 ?_, hk.saved (0#16, b0) (by simp [savedBytes]),
    hk.saved (1#16, b1) (by simp [savedBytes]), hk.saved (2#16, b2) (by simp [savedBytes])⟩
  · rw [portTrace_append, portTrace_append, portTrace_grabOnce, hm.trace, hk.trace]
    simp only [List.append_assoc]
  · rw [hperf.busCycles, cycleTrace_append, cycleTrace_append, cycleTrace_grabOnce, hm.cycles, hk.cycles]
    rfl
  · rw [respond_params, hpk]
    exact ⟨hk.idle, fun c hc => (sameIocon_of_exec he nofun c).trans (hiocon c hc)⟩

/-- Settles O38: the run and the second `grab` leave memory to the quiet environment, and the saved bytes are the ones the
reads found. -/
theorem singleStepMemory : Obligations.SingleStepMemory := by
  intro s target hclean hw hsim hn hd
  have hs := cleanConfigured_iff.1 hclean
  have hwired := wired_of_defaultWiring hw
  have hb := busBanks_of_registryOk (registryOk_of_defaultWiring hw)
  have hidle := (chipsClean_iff.1 hs.chips).1
  obtain ⟨b0, b1, b2, v, acts, g, m, t, hg, hm, ht⟩ := singleStep_first (target := target) hw hn hs.lines
    (fun i hi => ⟨(hd i hi).1, (hd i hi).2.1⟩) hs.configured hs.released hidle hs.pending
  obtain ⟨k, hi, lo, d, v', as, rfl, hk, -⟩ := ht.stepped
  have hquiet : NextDraws (quietDraw s.params) 156 (setSeq (some (freshSeq (.singleStep target))) s) :=
    fun i hi => (hd i hi).2.2
  have hgmem : g.mem = s.mem := hg.ran.quiet_mem hwired hb rfl hidle (sparesMreq_grabOnceActs v)
    (hquiet.mono (fun _ h => h) (Nat.le_of_ble_eq_true rfl)) (Nat.le_refl 4)
  have hports := hm.ports
  refine ⟨_, ht.exec, fun a ha => ?_, fun a ha b hmem => ?_⟩
  · have hlate : NextDraws (quietDraw s.params) 109 m := hquiet.after (hg.ran.trans hm.ran)
      (by rw [portCount_append, portCount_grabOnceActs]; omega)
    exact (hk.others hlate a ha).trans ((hm.others a ha).trans (by rw [hgmem]))
  · obtain ⟨x, hx, rfl⟩ : ∃ x ∈ savedBytes ⟨b0, b1, b2, target⟩, x.1.toNat = a := by
      obtain rfl | rfl | rfl : a = 0 ∨ a = 1 ∨ a = 2 := by omega
      · exact ⟨(0#16, b0), by simp [savedBytes], rfl⟩
      · exact ⟨(1#16, b1), by simp [savedBytes], rfl⟩
      · exact ⟨(2#16, b2), by simp [savedBytes], rfl⟩
    rw [hm.known hsim x hx b (hgmem ▸ hmem)]
    exact hk.saved x hx

/-- Settles O39: the snapshot that is pending takes the place of the three reads. -/
theorem singleStepRetry : Obligations.SingleStepRetry := by
  intro s target snap hclean hpend hw hn hd
  have hs := cleanConfigured_iff.1 hclean
  have hidle : Idle s.params s.chips := (chipsClean_iff.1 hs.chips).1
  have hc : s.configured = true := hs.configured
  have hlines : ∀ l, lineAtRest s l = true := hs.lines
  obtain ⟨v, g, hgrab, hg⟩ := singleStep_seized (target := target) hw hn hlines hd hs.released hidle
  obtain ⟨m, hsnap, hm⟩ := takeSnapshot_held target hg.rest (hg.pending.trans hpend)
  obtain ⟨t, ht⟩ := singleStep_done hw hn hlines hd hc hgrab hg hsnap hm
  have he := ht.exec
  obtain ⟨k, hi, lo, d, v', as, rfl, hk, hperf⟩ := ht.stepped
  refine ⟨_, v, v', lo, hi, d, he, rfl, hperf.portActions_eq ?_, ?_,
    (noNewFault_iff (exec_stays historyGrows_commandFrame he)).2 ht.faults, hk.pending, hk.arb,
    hk.saved (0#16, snap.saved0) (by simp [savedBytes]), hk.saved (1#16, snap.saved1) (by simp [savedBytes]),
    hk.saved (2#16, snap.saved2) (by simp [savedBytes])⟩
  · rw [portTrace_append, List.append_nil, portTrace_grabOnce, hk.trace]
  · rw [hperf.busCycles, cycleTrace_append, List.append_nil, cycleTrace_grabOnce, hk.cycles]
    rfl

end Sys2Proof.Machine
